-- ==== Sys2Proof/Word.lean ====
section
/-! DEFINITION. The two value types of the core: the 32-bit word and the byte (`00_scope.md` R11, R12).
Every value of the core is unsigned; `+` on words is `BitVec` addition, that is addition modulo 2^32 (R11). -/

namespace Sys2Proof

/-- A word: a 32-bit unsigned integer (R8, R11). -/
abbrev Word := BitVec 32

/-- A byte of key, nonce, data or keystream (R12). -/
abbrev Byte := BitVec 8

end Sys2Proof
end

