-- ==== Sys2Proof/Config.lean ====
section
/-! DEFINITION. What the spec leaves open: the three OPEN parameters of `92_eei_decisions.md` and the one free
value, the contents of the working buffer X (`93_implementation_defined.md` I3). None of them has a body a proof
could see. -/

namespace Sys2Proof

/-- FREE VALUE (log entry 1): what the working buffer X holds after the block computation that draws number `n`.
The spec leaves it unspecified (`10_state.md` R26, `93_implementation_defined.md` I3, I4). -/
opaque Config.freeWorkingBuffer : Nat → Vector Word 16

/-- OPEN parameter `T_BLOCK`, less 1 (`00_scope.md` R9, `92_eei_decisions.md` D19). -/
opaque Config.tBlockLessOne : Nat

/-- OPEN parameter `T_REG`, less 1 (R9, D19). -/
opaque Config.tRegLessOne : Nat

/-- OPEN parameter `CORE_BASE`, in words (`20_memory.md` R50, `93_implementation_defined.md` I9). -/
opaque Config.coreBaseWords : Nat

/-- `T_BLOCK`: an integer of at least 1 (R9). -/
def Config.tBlock : Nat := Config.tBlockLessOne + 1

/-- `T_REG`: an integer of at least 1 (R9). -/
def Config.tReg : Nat := Config.tRegLessOne + 1

/-- `CORE_BASE`: any word-aligned address of the host's map (R50). No rule but the host's own address map uses it. -/
def Config.coreBase : Nat := 4 * Config.coreBaseWords

end Sys2Proof
end

