-- ==== Sys2Proof/Machine/Bits.lean ====
section
/-! DEFINITION. Rotation, byte packing and bit fields, as `00_scope.md` R10 to R12 and `20_memory.md` R52, R53
define them. -/

namespace Sys2Proof

/-- The circular left rotation `rotl(v, n)`, for 0 < n < 32, by the formula of R11. -/
def rotl (v : Word) (n : Nat) : Word := (v <<< n) ||| (v >>> (32 - n))

/-- `zext_32(b)`: a byte zero-extended to a word (R12). -/
def zext32 (b : Byte) : Word := b.setWidth 32

/-- One flag as a word, 0 or 1 (used by the register layouts of R193, R194). -/
def flagWord (f : Bool) : Word := (BitVec.ofBool f).setWidth 32

/-- `le32(b0, b1, b2, b3)`: four bytes packed little-endian (R12). -/
def le32 (b0 b1 b2 b3 : Byte) : Word :=
  zext32 b0 ||| (zext32 b1 <<< 8) ||| (zext32 b2 <<< 16) ||| (zext32 b3 <<< 24)

/-- Byte `j` of a word, `w[8j+7 : 8j]` (R12, R53). -/
def byteOf (w : Word) (j : Nat) : Byte := w.extractLsb' (8 * j) 8

/-- `bytes_le(w)`: the bytes of a word, least significant first (R12). -/
def bytesLe (w : Word) : Vector Byte 4 := #v[byteOf w 0, byteOf w 1, byteOf w 2, byteOf w 3]

end Sys2Proof
end

