-- ==== Sys2Proof/Syntax.lean ====
section
/-! DEFINITION. The syntax of the core's only input: the registers of the register space (`20_memory.md` R62), the
bus transaction (`30_encoding.md` R70), the commands (R73), and `Instr`, one constructor per row of
`spec/opcode_table.json`. -/

namespace Sys2Proof

/-- The sixteen word registers of the register space, in offset order (R50, R62). -/
inductive Reg where
  | ctrl
  | cmd
  | status
  | ctr
  | keyIn
  | nonceIn
  | stage
  | rsv1C
  | dataB
  | dataW
  | dout
  | rsv2C
  | rsv30
  | rsv34
  | rsv38
  | rsv3C
  deriving DecidableEq, Repr

/-- The access column of R62. -/
inductive Access where
  | readWrite
  | writeOnly
  | readOnly
  | reserved
  deriving DecidableEq, Repr

/-- What a read and a write of the register do, in the words of R62. -/
def Reg.access : Reg → Access
  | .ctrl => .readWrite
  | .cmd | .keyIn | .nonceIn | .dataB | .dataW => .writeOnly
  | .status | .ctr | .stage | .dout => .readOnly
  | .rsv1C | .rsv2C | .rsv30 | .rsv34 | .rsv38 | .rsv3C => .reserved

/-- The commands of CMD.OP that are not reserved (R73). -/
inductive Command where
  | nop
  | session
  | rekey
  | renonce
  | start
  | endMsg
  | clrstage
  | clear
  | clrerr
  deriving DecidableEq, Repr

/-- One bus transaction `(we, off, wdata)` as the port carries it (R70, R56): `addr` is `off[5:2]`, so a misaligned
offset cannot be expressed. `wdata` is meaningful only when `we` is true. -/
structure Transaction where
  we : Bool
  addr : BitVec 4
  wdata : Word
  deriving DecidableEq, Repr

/-- The instructions: one constructor per row of `spec/opcode_table.json`. The first ten are the rows of format
CMD (R72), the others the rows of format BUS (R70, R78). A write carries its `wdata`; a read carries nothing, since
its `wdata` has no meaning (R70). -/
inductive Instr where
  | nop
  | session
  | rekey
  | renonce
  | start
  | endMsg
  | clrstage
  | clear
  | clrerr
  | illegalCmd (c : Word)
  | rdCtrl
  | wrCtrl (w : Word)
  | rdCmd
  | wrCmd (c : Word)
  | rdStatus
  | wrStatus (w : Word)
  | rdCtr
  | wrCtr (w : Word)
  | rdKeyIn
  | wrKeyIn (w : Word)
  | rdNonceIn
  | wrNonceIn (w : Word)
  | rdStage
  | wrStage (w : Word)
  | rdRsv1C
  | wrRsv1C (w : Word)
  | rdDataB
  | wrDataB (w : Word)
  | rdDataW
  | wrDataW (w : Word)
  | rdDout
  | wrDout (w : Word)
  | rdRsv2C
  | wrRsv2C (w : Word)
  | rdRsv30
  | wrRsv30 (w : Word)
  | rdRsv34
  | wrRsv34 (w : Word)
  | rdRsv38
  | wrRsv38 (w : Word)
  | rdRsv3C
  | wrRsv3C (w : Word)
  deriving DecidableEq, Repr

/-- The two formats of an encoding (R70, R72): a command word, which is what a CMD write carries, and a bus
transaction. -/
inductive Encoding where
  | cmd (c : Word)
  | bus (t : Transaction)
  deriving DecidableEq, Repr

end Sys2Proof
end

