-- ==== Sys2Proof/WellFormed.lean ====
section
/-! DEFINITION. Which terms of `Instr` an encoding stands for. Every value of every operand of a BUS row is legal
(`30_encoding.md` R71, R79), and a command has no operand (R76), so the one check is on ILLEGAL_CMD: it is the
fallback for the words no other CMD row matches (R74, R75), so its word is not the word of a command. -/

namespace Sys2Proof

/-- The word is the command word of one of the nine commands: RSV is 0 and OP is 0x00 to 0x08 (R72, R73). -/
def isCommandWord (c : Word) : Bool := decide (c.toNat ≤ 8)

/-- The well-formed instructions. -/
def Instr.wf : Instr → Bool
  | .illegalCmd c => !isCommandWord c
  | .nop  | .session  | .rekey  | .renonce  | .start  | .endMsg  | .clrstage  | .clear  | .clrerr
  | .rdCtrl | .wrCtrl _  | .rdCmd | .wrCmd _  | .rdStatus | .wrStatus _  | .rdCtr | .wrCtr _
  | .rdKeyIn | .wrKeyIn _  | .rdNonceIn | .wrNonceIn _  | .rdStage | .wrStage _  | .rdRsv1C | .wrRsv1C _
  | .rdDataB | .wrDataB _  | .rdDataW | .wrDataW _  | .rdDout | .wrDout _  | .rdRsv2C | .wrRsv2C _
  | .rdRsv30 | .wrRsv30 _  | .rdRsv34 | .wrRsv34 _  | .rdRsv38 | .wrRsv38 _  | .rdRsv3C | .wrRsv3C _ => true

end Sys2Proof
end

