-- ==== Sys2Proof/Decode.lean ====
section
/-! DEFINITION. Decoding and encoding (`30_encoding.md`). `decodeTransaction` is the decoder of the port, total on
every transaction (R71); `decodeCommandWord` is the decoder of the command word a CMD write carries (R72, R74, R75);
`decodeTransactionCode` reads the 8 bits that hold a transaction code and rejects, by name, the two kinds of byte that
are no transaction code. After them, the encoder, written from the same tables (R73, R78). -/

namespace Sys2Proof

/-! ### Command words (R72 to R75) -/

/-- RSV, bits 31:8 of a command word (R72). -/
def rsvField (c : Word) : BitVec 24 := c.extractLsb' 8 24

/-- OP, bits 7:0 of a command word (R72). -/
def opField (c : Word) : Byte := c.extractLsb' 0 8

/-- The opcode map of R73; `none` for the reserved opcodes 0x09 to 0xFF (R74). -/
def decodeOp (op : Byte) : Option Command :=
  match op.toNat with
  | 0x00 => some .nop
  | 0x01 => some .session
  | 0x02 => some .rekey
  | 0x03 => some .renonce
  | 0x04 => some .start
  | 0x05 => some .endMsg
  | 0x06 => some .clrstage
  | 0x07 => some .clear
  | 0x08 => some .clrerr
  | _ => none

/-- The command of a command word, `none` where IllegalCommand is raised: RSV is checked before the opcode
(R72, R75, R74). -/
def decodeCommand (c : Word) : Option Command :=
  if rsvField c ≠ 0 then none else decodeOp (opField c)

/-- The CMD row of a command. -/
def Instr.ofCommand : Command → Instr
  | .nop => .nop
  | .session => .session
  | .rekey => .rekey
  | .renonce => .renonce
  | .start => .start
  | .endMsg => .endMsg
  | .clrstage => .clrstage
  | .clear => .clear
  | .clrerr => .clrerr

/-- The CMD row that a command word matches; the fallback ILLEGAL_CMD is tried last (R72). -/
def decodeCommandWord (c : Word) : Instr :=
  match decodeCommand c with
  | some k => Instr.ofCommand k
  | none => .illegalCmd c

/-! ### Transactions (R70, R71, R78) -/

/-- The register at index `off[5:2]` (R50, R62). -/
def Reg.ofIndex (a : BitVec 4) : Reg :=
  match a.toNat with
  | 0 => .ctrl
  | 1 => .cmd
  | 2 => .status
  | 3 => .ctr
  | 4 => .keyIn
  | 5 => .nonceIn
  | 6 => .stage
  | 7 => .rsv1C
  | 8 => .dataB
  | 9 => .dataW
  | 10 => .dout
  | 11 => .rsv2C
  | 12 => .rsv30
  | 13 => .rsv34
  | 14 => .rsv38
  | _ => .rsv3C

/-- The row of a write to a register, with its `wdata` (R78). -/
def decodeWrite (r : Reg) (w : Word) : Instr :=
  match r with
  | .ctrl => .wrCtrl w
  | .cmd => .wrCmd w
  | .status => .wrStatus w
  | .ctr => .wrCtr w
  | .keyIn => .wrKeyIn w
  | .nonceIn => .wrNonceIn w
  | .stage => .wrStage w
  | .rsv1C => .wrRsv1C w
  | .dataB => .wrDataB w
  | .dataW => .wrDataW w
  | .dout => .wrDout w
  | .rsv2C => .wrRsv2C w
  | .rsv30 => .wrRsv30 w
  | .rsv34 => .wrRsv34 w
  | .rsv38 => .wrRsv38 w
  | .rsv3C => .wrRsv3C w

/-- The row of a read of a register (R78). -/
def decodeRead (r : Reg) : Instr :=
  match r with
  | .ctrl => .rdCtrl
  | .cmd => .rdCmd
  | .status => .rdStatus
  | .ctr => .rdCtr
  | .keyIn => .rdKeyIn
  | .nonceIn => .rdNonceIn
  | .stage => .rdStage
  | .rsv1C => .rdRsv1C
  | .dataB => .rdDataB
  | .dataW => .rdDataW
  | .dout => .rdDout
  | .rsv2C => .rdRsv2C
  | .rsv30 => .rdRsv30
  | .rsv34 => .rdRsv34
  | .rsv38 => .rdRsv38
  | .rsv3C => .rdRsv3C

/-- The BUS row of a transaction: exactly one for every transaction (R71). -/
def decodeTransaction (t : Transaction) : Instr :=
  if t.we then decodeWrite (Reg.ofIndex t.addr) t.wdata else decodeRead (Reg.ofIndex t.addr)

/-- The row of an encoding of either format. -/
def decode : Encoding → Instr
  | .cmd c => decodeCommandWord c
  | .bus t => decodeTransaction t

/-! ### Transaction codes (R70) -/

/-- Why 8 bits are no transaction code `TC[6:0] = we << 6 | off[5:0]`. -/
inductive Rejected where
  /-- Bit 7 is set: a transaction code has 7 bits. -/
  | widerThanTransactionCode
  /-- Bits 1:0 are not 00: the port carries no such offset (R56, R70). -/
  | lowAddressBits
  deriving DecidableEq, Repr

/-- The transaction of a transaction code and its `wdata` (R70). -/
def decodeTransactionCode (tc : BitVec 8) (wdata : Word) : Except Rejected Transaction :=
  if tc.getLsbD 7 then .error .widerThanTransactionCode
  else if tc.extractLsb' 0 2 ≠ 0 then .error .lowAddressBits
  else .ok ⟨tc.getLsbD 6, tc.extractLsb' 2 4, wdata⟩

/-! ### The encoder (R70, R73, R78) -/

/-- CMD.OP of a command (R73). -/
def Command.op : Command → Byte
  | .nop => 0x00
  | .session => 0x01
  | .rekey => 0x02
  | .renonce => 0x03
  | .start => 0x04
  | .endMsg => 0x05
  | .clrstage => 0x06
  | .clear => 0x07
  | .clrerr => 0x08

/-- The command word of a command: RSV is 0 (R72). -/
def Command.word (k : Command) : Word := zext32 k.op

/-- The index `off[5:2]` of a register (R62). -/
def Reg.index : Reg → BitVec 4
  | .ctrl => 0b0000
  | .cmd => 0b0001
  | .status => 0b0010
  | .ctr => 0b0011
  | .keyIn => 0b0100
  | .nonceIn => 0b0101
  | .stage => 0b0110
  | .rsv1C => 0b0111
  | .dataB => 0b1000
  | .dataW => 0b1001
  | .dout => 0b1010
  | .rsv2C => 0b1011
  | .rsv30 => 0b1100
  | .rsv34 => 0b1101
  | .rsv38 => 0b1110
  | .rsv3C => 0b1111

/-- The byte offset of a register (R62). -/
def Reg.offset (r : Reg) : BitVec 6 := r.index ++ 0b00#2

/-- `BusWrite(off(r), w)` (R70). -/
def busWrite (r : Reg) (w : Word) : Transaction := ⟨true, r.index, w⟩

/-- `BusRead(off(r))` (R70). The `wdata` of a read has no meaning; the encoder writes 0. -/
def busRead (r : Reg) : Transaction := ⟨false, r.index, 0⟩

/-- The transaction code of a transaction, in 7 bits: `we`, `off[5:2]`, 00 (R70). -/
def Transaction.code (t : Transaction) : BitVec 7 := BitVec.ofBool t.we ++ t.addr ++ 0b00#2

/-- The encoding of an instruction: a command word for a CMD row, a transaction for a BUS row. -/
def encode : Instr → Encoding
  | .nop => .cmd Command.nop.word
  | .session => .cmd Command.session.word
  | .rekey => .cmd Command.rekey.word
  | .renonce => .cmd Command.renonce.word
  | .start => .cmd Command.start.word
  | .endMsg => .cmd Command.endMsg.word
  | .clrstage => .cmd Command.clrstage.word
  | .clear => .cmd Command.clear.word
  | .clrerr => .cmd Command.clrerr.word
  | .illegalCmd c => .cmd c
  | .rdCtrl => .bus (busRead .ctrl)
  | .wrCtrl w => .bus (busWrite .ctrl w)
  | .rdCmd => .bus (busRead .cmd)
  | .wrCmd c => .bus (busWrite .cmd c)
  | .rdStatus => .bus (busRead .status)
  | .wrStatus w => .bus (busWrite .status w)
  | .rdCtr => .bus (busRead .ctr)
  | .wrCtr w => .bus (busWrite .ctr w)
  | .rdKeyIn => .bus (busRead .keyIn)
  | .wrKeyIn w => .bus (busWrite .keyIn w)
  | .rdNonceIn => .bus (busRead .nonceIn)
  | .wrNonceIn w => .bus (busWrite .nonceIn w)
  | .rdStage => .bus (busRead .stage)
  | .wrStage w => .bus (busWrite .stage w)
  | .rdRsv1C => .bus (busRead .rsv1C)
  | .wrRsv1C w => .bus (busWrite .rsv1C w)
  | .rdDataB => .bus (busRead .dataB)
  | .wrDataB w => .bus (busWrite .dataB w)
  | .rdDataW => .bus (busRead .dataW)
  | .wrDataW w => .bus (busWrite .dataW w)
  | .rdDout => .bus (busRead .dout)
  | .wrDout w => .bus (busWrite .dout w)
  | .rdRsv2C => .bus (busRead .rsv2C)
  | .wrRsv2C w => .bus (busWrite .rsv2C w)
  | .rdRsv30 => .bus (busRead .rsv30)
  | .wrRsv30 w => .bus (busWrite .rsv30 w)
  | .rdRsv34 => .bus (busRead .rsv34)
  | .wrRsv34 w => .bus (busWrite .rsv34 w)
  | .rdRsv38 => .bus (busRead .rsv38)
  | .wrRsv38 w => .bus (busWrite .rsv38 w)
  | .rdRsv3C => .bus (busRead .rsv3C)
  | .wrRsv3C w => .bus (busWrite .rsv3C w)

/-- The transaction that carries an encoding to the core: a command word is the `wdata` of a write to CMD (R72). -/
def Encoding.transaction : Encoding → Transaction
  | .cmd c => busWrite .cmd c
  | .bus t => t

/-! ### The numbering of `spec/opcode_table.json` -/

/-- The encoding that a table word stands for (log entry 4). 32 bits are a command word. 7 bits, or the byte that
holds them, are a transaction code whose `wdata` is 0. 40 bits are that byte and then `wdata`, least significant byte
first. -/
def tableEncoding (nbits w : Nat) : Option Encoding :=
  match nbits with
  | 32 => if w < 2 ^ 32 then some (.cmd (BitVec.ofNat 32 w)) else none
  | 7 | 8 | 40 =>
    if w < 2 ^ nbits then
      match decodeTransactionCode (BitVec.ofNat 8 w) (BitVec.ofNat 32 (w / 256)) with
      | .ok t => some (.bus t)
      | .error _ => none
    else none
  | _ => none

/-- The instruction of a table word, `none` where it is refused. -/
def decodeTableWord (nbits w : Nat) : Option Instr := (tableEncoding nbits w).map decode

end Sys2Proof
end

