-- ==== Sys2Proof/Machine/State.lean ====
section
/-! DEFINITION. The state of the core: every element of `10_state.md` R41, and the port the host drives
(`30_encoding.md` R70, `92_eei_decisions.md` D2). Then the result codes of `60_exceptions.md` R210, the reasons a step
can stop, and the state after reset (`70_reset_and_hazards.md` R241). -/

namespace Sys2Proof.Machine

/-- The errors an operation can raise (R210). -/
inductive ErrorCode where
  | invalidKeyLength
  | invalidNonceLength
  | noSession
  | noMessage
  | overflowError
  | illegalCommand
  deriving DecidableEq, Repr

/-- What can arrive at the core from outside: one transaction, presented with `rst = 0` (R70), or reset (R240).
`reset t` is `rst = 1` at one or more clock edges, with the transaction `t`, if any, presented or held meanwhile:
it is ignored or aborted, and never completes (R240, R242). -/
inductive HostInput where
  | transact (t : Transaction)
  | reset (t : Option Transaction)
  deriving DecidableEq, Repr

/-- What the core's side of the port shows at the end of a step (D2, R240; log entry 5). -/
inductive BusOut where
  /-- No transaction was presented, so none completed. -/
  | idle
  /-- `rst = 1`: `ready = 0` and `rdata = 0` (R240). -/
  | inReset
  /-- A write completed: `ready = 1`; `rdata` has no meaning. -/
  | writeDone
  /-- A read completed: `ready = 1` and the value is on `rdata`. -/
  | readDone (rdata : Word)
  deriving DecidableEq, Repr

/-- `ready`, where the spec gives it. -/
def BusOut.ready : BusOut → Option Bool
  | .idle => none
  | .inReset => some false
  | .writeDone => some true
  | .readDone _ => some true

/-- `rdata`, where the spec gives it. -/
def BusOut.rdata : BusOut → Option Word
  | .idle => none
  | .inReset => some 0
  | .writeDone => none
  | .readDone v => some v

/-- The state of the core. The names are the spec's, in lower case; `S` and `X` keep theirs. -/
structure State where
  /-- The cipher state: constants `S[0..4)`, key `S[4..12)`, block counter `S[12]`, nonce `S[13..16)` (R20). -/
  S : Vector Word 16
  /-- The block engine's working buffer, internal (R26). -/
  X : Vector Word 16
  /-- The single rounds done on X, 0 to 20, internal (R27). -/
  round : Fin 21
  /-- The keystream block (R28). -/
  ks : Vector Byte 64
  /-- The index of the next unused keystream byte, 0 to 64 (R28). -/
  ksptr : Fin 65
  /-- The staged key bytes (R29). -/
  keybuf : Vector Byte 32
  /-- The key bytes written since the last clear, saturating at 63 (R29). -/
  keycnt : BitVec 6
  /-- The staged nonce bytes (R30). -/
  noncebuf : Vector Byte 12
  /-- The nonce bytes written since the last clear, saturating at 63 (R30). -/
  noncecnt : BitVec 6
  /-- A session exists (R31). -/
  sess : Bool
  /-- A message is open (R32). -/
  msg : Bool
  /-- Sticky: the block counter has wrapped (R33). -/
  ctrwrap : Bool
  /-- Sticky: an error was raised (R34). -/
  errf : Bool
  /-- The result code of the last CMD, DATA_B or DATA_W write (R35). -/
  result : BitVec 4
  /-- CTRL bit 0, the overflow policy (R37). -/
  ovffail : Bool
  /-- The output of the last successful data write (R38). -/
  dout : Word
  /-- The port: what the last step showed the host (D2). -/
  bus : BusOut
  /-- The port: what the host still has to present, first to come first (R64, R260). -/
  inputs : List HostInput
  /-- Whether reset has been asserted since power-on (R243). -/
  resetDone : Bool
  /-- The MODEL's own: how many free values X has taken (log entry 1). -/
  xDraws : Nat
  deriving DecidableEq, Repr

/-- The core has no fault: no transaction hangs it or stops it, an error is recorded and the core accepts the next
transaction (R71, R211, R217). So no step raises one, and the type has no constructor. -/
inductive Fault where
  deriving DecidableEq, Repr

/-- Why the model has no meaning for a step. -/
inductive Refusal where
  /-- An instruction that has no meaning yet, raised by an arm of `exec`. No arm raises it. Safe. -/
  | notModelled (mnemonic : String)
  /-- A transaction presented before the first reset after power-on, raised by `step`: the state is unspecified then
  and the spec has the model refuse it (R243, I1). Safe. -/
  | beforeFirstReset
  deriving DecidableEq, Repr

/-- What a step or a meaning answers. -/
abbrev Outcome := Host.Outcome State Fault Refusal

/-- The state after reset: the values of R241. X is unspecified there and 0 here (log entry 2); the port shows what it
shows while `rst = 1`, and nothing has been presented yet. -/
def State.reset : State where
  S := Vector.replicate 16 0
  X := Vector.replicate 16 0
  round := 0
  ks := Vector.replicate 64 0
  ksptr := 64
  keybuf := Vector.replicate 32 0
  keycnt := 0
  noncebuf := Vector.replicate 12 0
  noncecnt := 0
  sess := false
  msg := false
  ctrwrap := false
  errf := false
  result := 0
  ovffail := false
  dout := 0
  bus := .inReset
  inputs := []
  resetDone := true
  xDraws := 0

end Sys2Proof.Machine
end

