-- ==== Sys2Proof/Machine/Flags.lean ====
section
/-! DEFINITION. The flags: the codes RESULT holds, the conditions that set CTRWRAP and that refuse a block request,
the saturating counts, and the register layouts that show the flags to the host. -/

namespace Sys2Proof.Machine

/-- The result codes (`60_exceptions.md` R210). -/
def ErrorCode.code : ErrorCode → BitVec 4
  | .invalidKeyLength => 1
  | .invalidNonceLength => 2
  | .noSession => 3
  | .noMessage => 4
  | .overflowError => 5
  | .illegalCommand => 6

/-- The increment of the block counter carries out of bit 31 (`10_state.md` R33). -/
def counterCarries (ctr : Word) : Bool := decide (ctr = 0xFFFFFFFF)

/-- A staging count plus one, saturating at 63 (R29, R100). -/
def countUp (c : BitVec 6) : BitVec 6 := if c = 63 then 63 else c + 1

/-- A DATA_B write makes a block request (`42_stream_cipher.md` R163). -/
def byteRequestsBlock (s : State) : Bool := decide (s.ksptr = 64)

/-- A block request falls within the four bytes of a DATA_W write (R165). -/
def wordRequestsBlock (s : State) : Bool := decide (60 < s.ksptr.val)

/-- A block request is refused: the counter has wrapped and the policy is to fail (R163). -/
def overflowRefused (s : State) : Bool := s.ctrwrap && s.ovffail

/-- CTRL as it reads (`43_control_status.md` R193). -/
def ctrlWord (s : State) : Word := flagWord s.ovffail

/-- STATUS as it reads (R194). -/
def statusWord (s : State) : Word :=
  flagWord s.sess ||| (flagWord s.msg <<< 1) ||| (flagWord s.ctrwrap <<< 2) ||| (flagWord s.errf <<< 3)
    ||| (s.result.setWidth 32 <<< 8) ||| (BitVec.ofNat 32 s.ksptr.val <<< 16)

/-- STAGE as it reads (R196). -/
def stageWord (s : State) : Word := s.keycnt.setWidth 32 ||| (s.noncecnt.setWidth 32 <<< 8)

/-- What each register reads as (R62): write-only and reserved registers read 0. -/
def readRegister (r : Reg) (s : State) : Word :=
  match r with
  | .ctrl => ctrlWord s
  | .status => statusWord s
  | .ctr => s.S[12]
  | .stage => stageWord s
  | .dout => s.dout
  | .cmd | .keyIn | .nonceIn | .dataB | .dataW => 0
  | .rsv1C | .rsv2C | .rsv30 | .rsv34 | .rsv38 | .rsv3C => 0

end Sys2Proof.Machine
end

