-- ==== Sys2Proof/Machine/Operands.lean ====
section
/-! DEFINITION. The operand forms of the writes (`30_encoding.md` R76) and the indices by which the operations reach
into the buffers. -/

namespace Sys2Proof.Machine

/-- The byte operand of KEY_IN, NONCE_IN and DATA_B: `wdata[7:0]`; `wdata[31:8]` is ignored. -/
def byteOperand (w : Word) : Byte := byteOf w 0

/-- The operand of CTRL: `wdata[0]`; `wdata[31:1]` is ignored. -/
def ovffailOperand (w : Word) : Bool := w.getLsbD 0

/-- The four operand bytes of DATA_W in stream order, `d_j = wdata[8j+7 : 8j]`. -/
def wordOperand (w : Word) : Vector Byte 4 := bytesLe w

/-- The key bytes of a cipher state, `bytes_le(S[4]) ++ … ++ bytes_le(S[11])` (`40_state_builder.md` R107). -/
def keyBytesOf (S : Vector Word 16) : Vector Byte 32 :=
  Vector.ofFn fun i : Fin 32 => byteOf S[4 + i.val / 4] (i.val % 4)

/-- The nonce bytes of a cipher state, `bytes_le(S[13]) ++ bytes_le(S[14]) ++ bytes_le(S[15])` (R106). -/
def nonceBytesOf (S : Vector Word 16) : Vector Byte 12 :=
  Vector.ofFn fun i : Fin 12 => byteOf S[13 + i.val / 4] (i.val % 4)

end Sys2Proof.Machine
end

