-- ==== Sys2Proof/Machine/Ops.lean ====
section
/-! DEFINITION. The operations the meanings share: raising an error and succeeding (`60_exceptions.md` R211, R212), the
end of a transaction on the port, and the clears of `40_state_builder.md`. -/

namespace Sys2Proof.Machine

/-- `raise E`, the core's one way of taking an exception: RESULT takes the code and ERRF is set. Nothing is saved and
control goes nowhere (R211). -/
def raise (e : ErrorCode) (s : State) : State := { s with result := e.code, errf := true }

/-- The nearest thing to a return from an error: the sticky flag is cleared (R191, R216). -/
def clearErrorFlag (s : State) : State := { s with errf := false }

/-- `ok`: RESULT is 0 and ERRF is unchanged (R212). -/
def ok (s : State) : State := { s with result := 0 }

/-- The end of a write: `ready` is asserted, also where the operation raised an error (R211, D2). -/
def finishWrite (s : State) : Outcome := .next { s with bus := .writeDone }

/-- The end of a read: the value is on `rdata`, and nothing else changes (R58, R70). -/
def finishRead (v : Word) (s : State) : Outcome := .next { s with bus := .readDone v }

/-- A read of a register (R62). -/
def readAccess (r : Reg) (s : State) : Outcome := finishRead (readRegister r s) s

/-- A write to a read-only or reserved register: its `wdata` is ignored (R198, R199). -/
def ignoredWrite (_w : Word) (s : State) : Outcome := finishWrite s

/-- `ClearKeyStage`. -/
def clearKeyStage (s : State) : State := { s with keycnt := 0, keybuf := Vector.replicate 32 0 }

/-- `ClearNonceStage`. -/
def clearNonceStage (s : State) : State := { s with noncecnt := 0, noncebuf := Vector.replicate 12 0 }

/-- The keystream buffer is emptied: KSPTR is 64 and every byte of KS is 0 (R28). -/
def clearKeystream (s : State) : State := { s with ksptr := 64, ks := Vector.replicate 64 0 }

/-- `ResetMsg`. -/
def resetMsg (s : State) : State := clearKeystream { s with msg := false, ctrwrap := false }

end Sys2Proof.Machine
end

