-- ==== Sys2Proof/Machine/StateBuilder.lean ====
section
/-! DEFINITION. The state initializer (`40_state_builder.md`): BuildState, the staging writes, the commit commands
and the clears. -/

namespace Sys2Proof.Machine

/-- Key word `i` of a key: `le32(k[4i], …, k[4i+3])` (R102). -/
def keyWord (k : Vector Byte 32) (i : Fin 8) : Word :=
  le32 k[4 * i.val] k[4 * i.val + 1] k[4 * i.val + 2] k[4 * i.val + 3]

/-- Nonce word `i` of a nonce: `le32(n[4i], …, n[4i+3])` (R102). -/
def nonceWord (n : Vector Byte 12) (i : Fin 3) : Word :=
  le32 n[4 * i.val] n[4 * i.val + 1] n[4 * i.val + 2] n[4 * i.val + 3]

/-- `BuildState(k, n)`: the constants, the key words, the counter 0, the nonce words (R102, R21). -/
def buildState (k : Vector Byte 32) (n : Vector Byte 12) : Vector Word 16 :=
  #v[0x61707865, 0x3320646E, 0x79622D32, 0x6B206574,
     keyWord k 0, keyWord k 1, keyWord k 2, keyWord k 3, keyWord k 4, keyWord k 5, keyWord k 6, keyWord k 7,
     0x00000000,
     nonceWord n 0, nonceWord n 1, nonceWord n 2]

/-- KEY_IN write: one key byte is appended; from the 33rd on it is counted and not stored (R100). -/
def execWrKeyIn (w : Word) (s : State) : Outcome :=
  finishWrite
    { s with
      keybuf := if h : s.keycnt.toNat < 32 then s.keybuf.set s.keycnt.toNat (byteOperand w) h else s.keybuf
      keycnt := countUp s.keycnt }

/-- NONCE_IN write: one nonce byte is appended; from the 13th on it is counted and not stored (R101). -/
def execWrNonceIn (w : Word) (s : State) : Outcome :=
  finishWrite
    { s with
      noncebuf := if h : s.noncecnt.toNat < 12 then s.noncebuf.set s.noncecnt.toNat (byteOperand w) h else s.noncebuf
      noncecnt := countUp s.noncecnt }

/-- KEY_IN read (R111). -/
def execRdKeyIn (s : State) : Outcome := readAccess .keyIn s

/-- NONCE_IN read (R111). -/
def execRdNonceIn (s : State) : Outcome := readAccess .nonceIn s

/-- SESSION: a new session from the staged key and nonce; both stages are cleared on success and on failure
(R105). -/
def execSession (s : State) : Outcome :=
  let s1 := clearNonceStage (clearKeyStage s)
  if s.keycnt ≠ 32 then finishWrite (raise .invalidKeyLength s1)
  else if s.noncecnt ≠ 12 then finishWrite (raise .invalidNonceLength s1)
  else finishWrite (ok (resetMsg { s1 with S := buildState s.keybuf s.noncebuf, sess := true }))

/-- REKEY: the session's state is rebuilt with the staged key and its own nonce; the key stage is cleared on success
and on failure (R106). -/
def execRekey (s : State) : Outcome :=
  let s1 := clearKeyStage s
  if s.sess = false then finishWrite (raise .noSession s1)
  else if s.keycnt ≠ 32 then finishWrite (raise .invalidKeyLength s1)
  else finishWrite (ok (resetMsg { s1 with S := buildState s.keybuf (nonceBytesOf s.S) }))

/-- RENONCE: the session's state is rebuilt with its own key and the staged nonce; the nonce stage is cleared on
success and on failure (R107). -/
def execRenonce (s : State) : Outcome :=
  let s1 := clearNonceStage s
  if s.sess = false then finishWrite (raise .noSession s1)
  else if s.noncecnt ≠ 12 then finishWrite (raise .invalidNonceLength s1)
  else finishWrite (ok (resetMsg { s1 with S := buildState (keyBytesOf s.S) s.noncebuf }))

/-- CLRSTAGE: both stages are cleared (R108). -/
def execClrstage (s : State) : Outcome := finishWrite (ok (clearNonceStage (clearKeyStage s)))

/-- CLEAR: the state is zeroized and the session ends; ERRF and OVFFAIL stay (R109). -/
def execClear (s : State) : Outcome :=
  finishWrite (ok
    { clearNonceStage (clearKeyStage (resetMsg { s with S := Vector.replicate 16 0, sess := false })) with dout := 0 })

end Sys2Proof.Machine
end

