-- ==== Sys2Proof/Machine/BlockEngine.lean ====
section
/-! DEFINITION. The quarter-round pipeline and the 20-round block engine (`41_block_engine.md`). -/

namespace Sys2Proof.Machine

/-- One of the four steps of a quarter-round: `X[a] <- X[a] + X[b]`, then `X[d] <- rotl(X[d] ^ X[a], n)`, the second
statement reading what the first wrote (R131, R14). -/
def addXorRotate (a b d : Fin 16) (n : Nat) (X : Vector Word 16) : Vector Word 16 :=
  let X1 := X.set a (X[a] + X[b])
  X1.set d (rotl (X1[d] ^^^ X1[a]) n)

/-- `QR(a, b, c, d)`: the quarter-round on four slots of the working buffer (R131). -/
def quarterRound (a b c d : Fin 16) (X : Vector Word 16) : Vector Word 16 :=
  let X1 := addXorRotate a b d 16 X
  let X2 := addXorRotate c d b 12 X1
  let X3 := addXorRotate a b d 8 X2
  addXorRotate c d b 7 X3

/-- `ColumnRound` (R132). -/
def columnRound (X : Vector Word 16) : Vector Word 16 :=
  quarterRound 3 7 11 15 (quarterRound 2 6 10 14 (quarterRound 1 5 9 13 (quarterRound 0 4 8 12 X)))

/-- `DiagonalRound` (R133). -/
def diagonalRound (X : Vector Word 16) : Vector Word 16 :=
  quarterRound 3 4 9 14 (quarterRound 2 7 8 13 (quarterRound 1 6 11 12 (quarterRound 0 5 10 15 X)))

/-- A double round: the column round first (R134). -/
def doubleRound (X : Vector Word 16) : Vector Word 16 := diagonalRound (columnRound X)

/-- `Permute`: ten double rounds (R134). -/
def permute (X : Vector Word 16) : Vector Word 16 := doubleRound^[10] X

/-- Word-by-word addition modulo 2^32. -/
def addWords (X S : Vector Word 16) : Vector Word 16 := Vector.ofFn fun i : Fin 16 => X[i] + S[i]

/-- `Block(S)`: the block function with feed-forward addition (R135, R136). -/
def block (S : Vector Word 16) : Vector Word 16 := addWords (permute S) S

/-- Sixteen words as 64 bytes, each word least significant byte first, in word order (R137, R52). -/
def serialize (out : Vector Word 16) : Vector Byte 64 :=
  Vector.ofFn fun i : Fin 64 => byteOf out[i.val / 4] (i.val % 4)

/-- `KeystreamBytes(S)` (R137). -/
def keystreamBytes (S : Vector Word 16) : Vector Byte 64 := serialize (block S)

/-- The counter advance after each block: CTRWRAP is set where the increment carries, and is never cleared here
(R138). -/
def advanceCounter (s : State) : State :=
  { s with ctrwrap := s.ctrwrap || counterCarries s.S[12], S := s.S.set 12 (s.S[12] + 1) }

/-- The working buffer holds an unspecified value once a block is computed: a free value (R26, I3; log entry 1). -/
def freeX (s : State) : State :=
  { s with X := Config.freeWorkingBuffer s.xDraws, xDraws := s.xDraws + 1 }

/-- `GenBlock`, as one atomic step (R139, R141): the block uses the counter before its increment. -/
def genBlock (s : State) : State :=
  freeX { advanceCounter { s with ks := keystreamBytes s.S } with ksptr := 0, round := 0 }

/-! ### The reference micro-schedule (R142)

No transaction sees it (R252), so `genBlock` does not step through it; it is here because the spec gives it. -/

/-- Step 0: the working buffer is a copy of the state. -/
def pipelineLoad (s : State) : State := { s with X := s.S, round := 0 }

/-- The single round with number `r`: a column round where `r` is odd, a diagonal round where it is even (R27). -/
def singleRound (r : Nat) (X : Vector Word 16) : Vector Word 16 :=
  if r % 2 = 1 then columnRound X else diagonalRound X

/-- Step `r`, for `r` from 1 to 20: one single round on X, and ROUND is `r`. With 20 rounds done nothing is left. -/
def pipelineRound (s : State) : State :=
  if h : s.round.val < 20 then
    { s with X := singleRound (s.round.val + 1) s.X, round := ⟨s.round.val + 1, by omega⟩ }
  else s

/-- Step 21: the feed-forward, the serialization, the counter advance; KSPTR and ROUND are 0. -/
def pipelineFinish (s : State) : State :=
  { advanceCounter { s with ks := serialize (addWords s.X s.S) } with ksptr := 0, round := 0 }

/-- All 22 steps. -/
def pipelineRun (s : State) : State := pipelineFinish (pipelineRound^[20] (pipelineLoad s))

end Sys2Proof.Machine
end

