-- ==== Sys2Proof/Machine/StreamCipher.lean ====
section
/-! DEFINITION. The keystream XOR combiner (`42_stream_cipher.md`): messages and the data port. -/

namespace Sys2Proof.Machine

/-- START: the counter is 0, the keystream buffer is empty and a message is open. It generates no block (R161). -/
def execStart (s : State) : Outcome :=
  if s.sess = false then finishWrite (raise .noSession s)
  else finishWrite (ok { clearKeystream { s with S := s.S.set 12 0 } with ctrwrap := false, msg := true })

/-- END: the message is closed and its leftover keystream discarded. It never fails (R162). -/
def execEndMsg (s : State) : Outcome := finishWrite (ok (clearKeystream { s with msg := false }))

/-- A data byte is combined with keystream byte `i`, and KSPTR moves past it (R163). -/
def combine (b : Byte) (i : Fin 64) (s : State) : Byte × State := (b ^^^ s.ks[i], { s with ksptr := i.succ })

/-- `XorByte(b)`: a block is generated first where no unused keystream byte is left (R163). -/
def xorByte (b : Byte) (s : State) : Byte × State :=
  if h : s.ksptr.val < 64 then combine b ⟨s.ksptr.val, h⟩ s else combine b 0 (genBlock s)

/-- The four bytes of a DATA_W write through `XorByte`, in stream order, and their outputs (R165). -/
def xorWord (d : Vector Byte 4) (s : State) : Vector Byte 4 × State :=
  let r0 := xorByte d[0] s
  let r1 := xorByte d[1] r0.2
  let r2 := xorByte d[2] r1.2
  let r3 := xorByte d[3] r2.2
  (#v[r0.1, r1.1, r2.1, r3.1], r3.2)

/-- DATA_B write (R164). -/
def execWrDataB (w : Word) (s : State) : Outcome :=
  if s.msg = false then finishWrite (raise .noMessage s)
  else if byteRequestsBlock s && overflowRefused s then finishWrite (raise .overflowError s)
  else
    let r := xorByte (byteOperand w) s
    finishWrite (ok { r.2 with dout := zext32 r.1 })

/-- DATA_W write: all four bytes are combined, or none (R165). -/
def execWrDataW (w : Word) (s : State) : Outcome :=
  if s.msg = false then finishWrite (raise .noMessage s)
  else if wordRequestsBlock s && overflowRefused s then finishWrite (raise .overflowError s)
  else
    let r := xorWord (wordOperand w) s
    finishWrite (ok { r.2 with dout := le32 r.1[0] r.1[1] r.1[2] r.1[3] })

/-- DOUT read (R166). -/
def execRdDout (s : State) : Outcome := readAccess .dout s

/-- DATA_B read (R168). -/
def execRdDataB (s : State) : Outcome := readAccess .dataB s

/-- DATA_W read (R168). -/
def execRdDataW (s : State) : Outcome := readAccess .dataW s

end Sys2Proof.Machine
end

