-- ==== Sys2Proof/Machine/ControlStatus.lean ====
section
/-! DEFINITION. Control, status and housekeeping (`43_control_status.md`), and the dispatch of a CMD write
(`30_encoding.md` R72). -/

namespace Sys2Proof.Machine

/-- NOP (R190). -/
def execNop (s : State) : Outcome := finishWrite (ok s)

/-- CLRERR: the sticky error flag is cleared (R191). -/
def execClrerr (s : State) : Outcome := finishWrite (ok (clearErrorFlag s))

/-- A command word that no command has: IllegalCommand, and nothing else changes (R74, R75). -/
def execIllegalCmd (_c : Word) (s : State) : Outcome := finishWrite (raise .illegalCommand s)

/-- CTRL write (R192). -/
def execWrCtrl (w : Word) (s : State) : Outcome := finishWrite { s with ovffail := ovffailOperand w }

/-- CTRL read (R193). -/
def execRdCtrl (s : State) : Outcome := readAccess .ctrl s

/-- CMD write: the command of the word runs; a word of no command is illegal (R72). -/
def execWrCmd (c : Word) (s : State) : Outcome :=
  match decodeCommand c with
  | some .nop => execNop s
  | some .session => execSession s
  | some .rekey => execRekey s
  | some .renonce => execRenonce s
  | some .start => execStart s
  | some .endMsg => execEndMsg s
  | some .clrstage => execClrstage s
  | some .clear => execClear s
  | some .clrerr => execClrerr s
  | none => execIllegalCmd c s

/-- CMD read: 0, never the last command (R197). -/
def execRdCmd (s : State) : Outcome := readAccess .cmd s

/-- STATUS read (R194). -/
def execRdStatus (s : State) : Outcome := readAccess .status s

/-- STATUS write: ignored (R198). -/
def execWrStatus (w : Word) (s : State) : Outcome := ignoredWrite w s

/-- CTR read (R195). -/
def execRdCtr (s : State) : Outcome := readAccess .ctr s

/-- CTR write: ignored (R198). -/
def execWrCtr (w : Word) (s : State) : Outcome := ignoredWrite w s

/-- STAGE read (R196). -/
def execRdStage (s : State) : Outcome := readAccess .stage s

/-- STAGE write: ignored (R198). -/
def execWrStage (w : Word) (s : State) : Outcome := ignoredWrite w s

/-- Reserved offset 0x1C read (R199). -/
def execRdRsv1C (s : State) : Outcome := readAccess .rsv1C s

/-- Reserved offset 0x1C write: ignored (R199). -/
def execWrRsv1C (w : Word) (s : State) : Outcome := ignoredWrite w s

/-- DOUT write: ignored (R198). -/
def execWrDout (w : Word) (s : State) : Outcome := ignoredWrite w s

/-- Reserved offset 0x2C read (R199). -/
def execRdRsv2C (s : State) : Outcome := readAccess .rsv2C s

/-- Reserved offset 0x2C write: ignored (R199). -/
def execWrRsv2C (w : Word) (s : State) : Outcome := ignoredWrite w s

/-- Reserved offset 0x30 read (R199). -/
def execRdRsv30 (s : State) : Outcome := readAccess .rsv30 s

/-- Reserved offset 0x30 write: ignored (R199). -/
def execWrRsv30 (w : Word) (s : State) : Outcome := ignoredWrite w s

/-- Reserved offset 0x34 read (R199). -/
def execRdRsv34 (s : State) : Outcome := readAccess .rsv34 s

/-- Reserved offset 0x34 write: ignored (R199). -/
def execWrRsv34 (w : Word) (s : State) : Outcome := ignoredWrite w s

/-- Reserved offset 0x38 read (R199). -/
def execRdRsv38 (s : State) : Outcome := readAccess .rsv38 s

/-- Reserved offset 0x38 write: ignored (R199). -/
def execWrRsv38 (w : Word) (s : State) : Outcome := ignoredWrite w s

/-- Reserved offset 0x3C read (R199). -/
def execRdRsv3C (s : State) : Outcome := readAccess .rsv3C s

/-- Reserved offset 0x3C write: ignored (R199). -/
def execWrRsv3C (w : Word) (s : State) : Outcome := ignoredWrite w s

end Sys2Proof.Machine
end

