-- ==== Sys2Proof/Machine/Dispatch.lean ====
section
/-! DEFINITION. One arm per row of `spec/opcode_table.json`, each a call of that row's meaning. -/

namespace Sys2Proof.Machine

def exec (i : Instr) (s : State) : Host.Outcome State Fault Refusal :=
  match i with
  | .nop => Sys2Proof.Machine.execNop s
  | .session => Sys2Proof.Machine.execSession s
  | .rekey => Sys2Proof.Machine.execRekey s
  | .renonce => Sys2Proof.Machine.execRenonce s
  | .start => Sys2Proof.Machine.execStart s
  | .endMsg => Sys2Proof.Machine.execEndMsg s
  | .clrstage => Sys2Proof.Machine.execClrstage s
  | .clear => Sys2Proof.Machine.execClear s
  | .clrerr => Sys2Proof.Machine.execClrerr s
  | .illegalCmd c => Sys2Proof.Machine.execIllegalCmd c s
  | .rdCtrl => Sys2Proof.Machine.execRdCtrl s
  | .wrCtrl w => Sys2Proof.Machine.execWrCtrl w s
  | .rdCmd => Sys2Proof.Machine.execRdCmd s
  | .wrCmd c => Sys2Proof.Machine.execWrCmd c s
  | .rdStatus => Sys2Proof.Machine.execRdStatus s
  | .wrStatus w => Sys2Proof.Machine.execWrStatus w s
  | .rdCtr => Sys2Proof.Machine.execRdCtr s
  | .wrCtr w => Sys2Proof.Machine.execWrCtr w s
  | .rdKeyIn => Sys2Proof.Machine.execRdKeyIn s
  | .wrKeyIn w => Sys2Proof.Machine.execWrKeyIn w s
  | .rdNonceIn => Sys2Proof.Machine.execRdNonceIn s
  | .wrNonceIn w => Sys2Proof.Machine.execWrNonceIn w s
  | .rdStage => Sys2Proof.Machine.execRdStage s
  | .wrStage w => Sys2Proof.Machine.execWrStage w s
  | .rdRsv1C => Sys2Proof.Machine.execRdRsv1C s
  | .wrRsv1C w => Sys2Proof.Machine.execWrRsv1C w s
  | .rdDataB => Sys2Proof.Machine.execRdDataB s
  | .wrDataB w => Sys2Proof.Machine.execWrDataB w s
  | .rdDataW => Sys2Proof.Machine.execRdDataW s
  | .wrDataW w => Sys2Proof.Machine.execWrDataW w s
  | .rdDout => Sys2Proof.Machine.execRdDout s
  | .wrDout w => Sys2Proof.Machine.execWrDout w s
  | .rdRsv2C => Sys2Proof.Machine.execRdRsv2C s
  | .wrRsv2C w => Sys2Proof.Machine.execWrRsv2C w s
  | .rdRsv30 => Sys2Proof.Machine.execRdRsv30 s
  | .wrRsv30 w => Sys2Proof.Machine.execWrRsv30 w s
  | .rdRsv34 => Sys2Proof.Machine.execRdRsv34 s
  | .wrRsv34 w => Sys2Proof.Machine.execWrRsv34 w s
  | .rdRsv38 => Sys2Proof.Machine.execRdRsv38 s
  | .wrRsv38 w => Sys2Proof.Machine.execWrRsv38 w s
  | .rdRsv3C => Sys2Proof.Machine.execRdRsv3C s
  | .wrRsv3C w => Sys2Proof.Machine.execWrRsv3C w s

end Sys2Proof.Machine
end

