-- ==== Sys2Proof/Machine/Port.lean ====
section
/-! DEFINITION. The port as a step uses it: where the core idles, what reset does, and how a transaction is taken.
`Step.lean` only calls these. -/

namespace Sys2Proof.Machine

/-- Where the host's own address map shows a register: `CORE_BASE` is an OPEN parameter, and no other rule uses it
(`20_memory.md` R50). -/
def hostAddress (r : Reg) : Nat := Config.coreBase + r.offset.toNat

/-- Nothing is presented: nothing happens (R214), and no transaction completes. -/
def idle (s : State) : State := { s with bus := .idle }

/-- Reset: the values of R241. What the host has still to present, and the count of the free values X has taken, are
not the core's and stay. -/
def applyReset (s : State) : State := { State.reset with inputs := s.inputs, xDraws := s.xDraws }

/-- The host's first input is taken from the port. -/
def takeInput (s : State) : State := { s with inputs := s.inputs.tail }

/-- The host presents this next, before everything it had still to present. -/
def present (x : HostInput) (s : State) : State := { s with inputs := x :: s.inputs }

/-- A transaction is accepted only after the first reset since power-on (R243). -/
def accepts (s : State) : Bool := s.resetDone

/-- The transaction of a table word is presented next, to a core that has been reset (log entry 4). A table word that
stands for no encoding presents nothing. -/
def presentTableWord (nbits w : Nat) (s : State) : State :=
  match tableEncoding nbits w with
  | some e => present (.transact e.transaction) { s with resetDone := true }
  | none => s

end Sys2Proof.Machine
end

