-- ==== Sys2Proof/Machine/Step.lean ====
section
/-! DEFINITION. One step: the core takes the next thing the host presents. A transaction is one atomic step
(`20_memory.md` R57, `70_reset_and_hazards.md` R252); reset overrides everything (R214, R242). -/

namespace Sys2Proof.Machine

/-- One step of the machine. -/
def step (s : State) : Host.Outcome State Fault Refusal :=
  match s.inputs with
  | [] => .next (idle s)
  | .reset _ :: _ => .next (applyReset (takeInput s))
  | .transact t :: _ =>
    if accepts s then exec (decodeTransaction t) (takeInput s) else .refused .beforeFirstReset

/-- The state with a table word's instruction presented as the next transaction (log entry 4). -/
def State.withFetchWord (s : State) (nbits w : Nat) : State := presentTableWord nbits w s

end Sys2Proof.Machine
end

