-- ==== Sys2Proof/Machine/Script.lean ====
section
/-! DEFINITION. Host scripts (`30_encoding.md` R81, R82): the lines, their expansion into transactions, and the run of
a script from a state (`70_reset_and_hazards.md` R260). The written form of a line is the host's and is left out
(log entry 8). -/

namespace Sys2Proof.Machine

/-- A line of a script: the five forms of R81 and the pseudo-instructions of R82. -/
inductive ScriptLine where
  | wr (r : Reg) (v : Word)
  | rd (r : Reg)
  | rdIs (r : Reg) (v : Word)
  | cmd (k : Command)
  | cmdRaw (c : Word)
  | cmdEncrypt
  | cmdDecrypt
  | key (k : Vector Byte 32)
  | nonce (n : Vector Byte 12)
  | session (k : Vector Byte 32) (n : Vector Byte 12)
  | xorb (b : Byte)
  | xorw (w : Word)
  | transform (data : List Byte)
  deriving DecidableEq, Repr

/-- One transaction of a script, with the value the script asserts a read gives, if it asserts one. -/
structure ScriptStep where
  transaction : Transaction
  asserts : Option Word
  deriving DecidableEq, Repr

/-- `wr REG, v` (R81). -/
def scriptWr (r : Reg) (v : Word) : ScriptStep := ⟨busWrite r v, none⟩

/-- `rd REG` (R81). -/
def scriptRd (r : Reg) : ScriptStep := ⟨busRead r, none⟩

/-- `cmd NAME` (R81). -/
def scriptCmd (k : Command) : ScriptStep := scriptWr .cmd k.word

/-- `key b0, …, b31` (R82). -/
def scriptKey (k : Vector Byte 32) : List ScriptStep := k.toList.map fun b => scriptWr .keyIn (zext32 b)

/-- `nonce b0, …, b11` (R82). -/
def scriptNonce (n : Vector Byte 12) : List ScriptStep := n.toList.map fun b => scriptWr .nonceIn (zext32 b)

/-- `xorb b` (R82). -/
def scriptXorb (b : Byte) : List ScriptStep := [scriptWr .dataB (zext32 b), scriptRd .dout]

/-- `xorw w` (R82). -/
def scriptXorw (w : Word) : List ScriptStep := [scriptWr .dataW w, scriptRd .dout]

/-- One data write of a message, of either width (`20_memory.md` R54). -/
inductive DataWrite where
  | byte (b : Byte)
  | word (w : Word)
  deriving DecidableEq, Repr

/-- The stream bytes a data write carries, in stream order (R53). -/
def DataWrite.stream : DataWrite → List Byte
  | .byte b => [b]
  | .word w => (bytesLe w).toList

/-- The stream bytes that the DOUT read after a data write gives (R53, R164, R165). -/
def DataWrite.output (v : Word) : DataWrite → List Byte
  | .byte _ => [byteOf v 0]
  | .word _ => (bytesLe v).toList

/-- A data write and the read of its output. -/
def DataWrite.steps : DataWrite → List ScriptStep
  | .byte b => scriptXorb b
  | .word w => scriptXorw w

/-- The stream of a sequence of data writes: their bytes in transaction order (R54, R160). -/
def streamOf (ws : List DataWrite) : List Byte := ws.flatMap DataWrite.stream

/-- The output stream of a sequence of data writes, from the values their DOUT reads gave. -/
def outputOf (ws : List DataWrite) (shown : List Word) : List Byte :=
  (ws.zip shown).flatMap fun p => p.1.output p.2

/-- `cmd START`, then each data write with the read of its output: a message before its END (R160). -/
def scriptMessage (ws : List DataWrite) : List ScriptStep := scriptCmd .start :: ws.flatMap DataWrite.steps

/-- The transactions of a line (R81, R82). -/
def ScriptLine.expand : ScriptLine → List ScriptStep
  | .wr r v => [scriptWr r v]
  | .rd r => [scriptRd r]
  | .rdIs r v => [⟨busRead r, some v⟩]
  | .cmd k => [scriptCmd k]
  | .cmdRaw c => [scriptWr .cmd c]
  | .cmdEncrypt => [scriptCmd .start]
  | .cmdDecrypt => [scriptCmd .start]
  | .key k => scriptKey k
  | .nonce n => scriptNonce n
  | .session k n => scriptKey k ++ scriptNonce n ++ [scriptCmd .session]
  | .xorb b => scriptXorb b
  | .xorw w => scriptXorw w
  | .transform data => [scriptCmd .start] ++ data.flatMap scriptXorb ++ [scriptCmd .endMsg]

/-- The transactions of a script, in order. -/
def expandScript (lines : List ScriptLine) : List ScriptStep := lines.flatMap ScriptLine.expand

/-- What a run of a script shows: its end state, the values its reads gave in order (R81), and whether every value it
asserts was read. -/
structure ScriptRun where
  final : State
  shown : List Word
  asserted : Bool
  deriving DecidableEq, Repr

/-- The transactions of a script run one after another; the run ends when the last completes (R260). -/
def runSteps : List ScriptStep → State → Host.Outcome ScriptRun Fault Refusal
  | [], s => .next ⟨s, [], true⟩
  | x :: rest, s =>
    match step (present (.transact x.transaction) s) with
    | .fault f => .fault f
    | .refused r => .refused r
    | .next s1 =>
      match runSteps rest s1 with
      | .fault f => .fault f
      | .refused r => .refused r
      | .next run =>
        let shown := s1.bus.rdata.toList ++ run.shown
        .next ⟨run.final, shown, run.asserted && (x.asserts.all fun v => s1.bus.rdata == some v)⟩

/-- A script runs from the state after reset (R260). -/
def runScript (lines : List ScriptLine) : Host.Outcome ScriptRun Fault Refusal :=
  runSteps (expandScript lines) State.reset

end Sys2Proof.Machine
end

