-- ==== Sys2Proof/Machine/Timing.lean ====
section
/-! DEFINITION. How long a transaction holds the bus (`70_reset_and_hazards.md` R252), in terms of the OPEN parameters
T_BLOCK and T_REG. Nothing in the machine uses this file: a transaction is one atomic step whatever its length, and no
claim about a number of cycles can be made (R259). -/

namespace Sys2Proof.Machine

/-- The transaction makes a block request and passes its checks, so it is held while `GenBlock` runs (R252). -/
def holdsForBlock (i : Instr) (s : State) : Bool :=
  match i with
  | .wrDataB _ => s.msg && byteRequestsBlock s && !overflowRefused s
  | .wrDataW _ => s.msg && wordRequestsBlock s && !overflowRefused s
  | .nop | .session | .rekey | .renonce | .start | .endMsg | .clrstage | .clear | .clrerr | .illegalCmd _
  | .rdCtrl | .wrCtrl _ | .rdCmd | .wrCmd _ | .rdStatus | .wrStatus _ | .rdCtr | .wrCtr _
  | .rdKeyIn | .wrKeyIn _ | .rdNonceIn | .wrNonceIn _ | .rdStage | .wrStage _ | .rdRsv1C | .wrRsv1C _
  | .rdDataB | .rdDataW | .rdDout | .wrDout _ | .rdRsv2C | .wrRsv2C _ | .rdRsv30 | .wrRsv30 _
  | .rdRsv34 | .wrRsv34 _ | .rdRsv38 | .wrRsv38 _ | .rdRsv3C | .wrRsv3C _ => false

/-- The cycles of a transaction (R252). -/
def busCycles (i : Instr) (s : State) : Nat := if holdsForBlock i s then Config.tBlock else Config.tReg

end Sys2Proof.Machine
end

