-- ==== Sys2Proof/Safety.lean ====
section
/-! DEFINITION. What counts as a safe state and a safe answer: the invariants of `10_state.md` R25 and those that follow
from R27, R28, R33, R35, R210 and R211. -/

namespace Sys2Proof.Machine

/-- Without a session every word of S is 0 (R25 a). -/
abbrev ZeroOutsideSession (s : State) : Prop := s.sess = false → s.S = Vector.replicate 16 0

/-- In a session the constant words hold the values of R21 (R25 b). -/
abbrev ConstantsInSession (s : State) : Prop :=
  s.sess = true → s.S[0] = 0x61707865 ∧ s.S[1] = 0x3320646E ∧ s.S[2] = 0x79622D32 ∧ s.S[3] = 0x6B206574

/-- A message is open only in a session (R25 c). -/
abbrev MessageInSession (s : State) : Prop := s.msg = true → s.sess = true

/-- Without an open message no keystream is held (R25 d). -/
abbrev NoKeystreamOutsideMessage (s : State) : Prop :=
  s.msg = false → s.ksptr = 64 ∧ s.ks = Vector.replicate 64 0

/-- The staged key is 0 past its count (R25 e). -/
abbrev KeyStagePadded (s : State) : Prop := ∀ i : Fin 32, s.keycnt.toNat ≤ i.val → s.keybuf[i] = 0

/-- The staged nonce is 0 past its count (R25 e). -/
abbrev NonceStagePadded (s : State) : Prop := ∀ i : Fin 12, s.noncecnt.toNat ≤ i.val → s.noncebuf[i] = 0

/-- The counter has wrapped only in a session: CLEAR clears CTRWRAP with SESS (R33, R109). -/
abbrev WrapInSession (s : State) : Prop := s.ctrwrap = true → s.sess = true

/-- The codes 7 to 15 are never produced (R210). -/
abbrev ResultDefined (s : State) : Prop := s.result.toNat ≤ 6

/-- A code that is not 0 was raised, and only CLRERR, which clears RESULT too, clears ERRF (R34, R191, R211). -/
abbrev ErrorRecorded (s : State) : Prop := s.result ≠ 0 → s.errf = true

/-- No block computation is in progress between transactions (R27). -/
abbrev PipelineIdle (s : State) : Prop := s.round = 0

/-- While unused keystream is left, KS is the block of the counter before its last advance (R28, R139). -/
abbrev KeystreamCurrent (s : State) : Prop :=
  s.msg = true → s.ksptr ≠ 64 → s.ks = keystreamBytes (s.S.set 12 (s.S[12] - 1))

/-- The invariants of the core. -/
structure Inv (s : State) : Prop where
  zeroOutsideSession : ZeroOutsideSession s
  constantsInSession : ConstantsInSession s
  messageInSession : MessageInSession s
  noKeystreamOutsideMessage : NoKeystreamOutsideMessage s
  keyStagePadded : KeyStagePadded s
  nonceStagePadded : NonceStagePadded s
  wrapInSession : WrapInSession s
  resultDefined : ResultDefined s
  errorRecorded : ErrorRecorded s
  pipelineIdle : PipelineIdle s
  keystreamCurrent : KeystreamCurrent s

/-- The instructions that write RESULT: the CMD rows, the CMD write that carries them, and the data writes
(`43_control_status.md` R200). -/
def reportsResult (i : Instr) : Bool :=
  match i with
  | .nop | .session | .rekey | .renonce | .start | .endMsg | .clrstage | .clear
  | .clrerr | .illegalCmd _ | .wrCmd _ | .wrDataB _ | .wrDataW _ => true
  | .rdCtrl | .wrCtrl _ | .rdCmd | .rdStatus | .wrStatus _ | .rdCtr | .wrCtr _ | .rdKeyIn
  | .wrKeyIn _ | .rdNonceIn | .wrNonceIn _ | .rdStage | .wrStage _ | .rdRsv1C | .wrRsv1C _ | .rdDataB
  | .rdDataW | .rdDout | .wrDout _ | .rdRsv2C | .wrRsv2C _ | .rdRsv30 | .wrRsv30 _ | .rdRsv34
  | .wrRsv34 _ | .rdRsv38 | .wrRsv38 _ | .rdRsv3C | .wrRsv3C _ => false

/-- The reads. -/
def isRead (i : Instr) : Bool :=
  match i with
  | .rdCtrl | .rdCmd | .rdStatus | .rdCtr | .rdKeyIn | .rdNonceIn | .rdStage | .rdRsv1C
  | .rdDataB | .rdDataW | .rdDout | .rdRsv2C | .rdRsv30 | .rdRsv34 | .rdRsv38 | .rdRsv3C => true
  | .nop | .session | .rekey | .renonce | .start | .endMsg | .clrstage | .clear
  | .clrerr | .illegalCmd _ | .wrCtrl _ | .wrCmd _ | .wrStatus _ | .wrCtr _ | .wrKeyIn _ | .wrNonceIn _
  | .wrStage _ | .wrRsv1C _ | .wrDataB _ | .wrDataW _ | .wrDout _ | .wrRsv2C _ | .wrRsv30 _ | .wrRsv34 _
  | .wrRsv38 _ | .wrRsv3C _ => false

/-- Two states look alike to every register read: they agree on CTRL, STATUS, CTR, STAGE and DOUT (R223). -/
def LookAlike (s t : State) : Prop :=
  s.ovffail = t.ovffail ∧ s.sess = t.sess ∧ s.msg = t.msg ∧ s.ctrwrap = t.ctrwrap ∧ s.errf = t.errf ∧
    s.result = t.result ∧ s.ksptr = t.ksptr ∧ s.S[12] = t.S[12] ∧ s.keycnt = t.keycnt ∧ s.noncecnt = t.noncecnt ∧
    s.dout = t.dout

/-- Key bytes staged one after another through KEY_IN (R100). -/
def stageKeyBytes : List Byte → State → Outcome
  | [], s => .next s
  | b :: rest, s =>
    match exec (.wrKeyIn (zext32 b)) s with
    | .next t => stageKeyBytes rest t
    | .fault f => .fault f
    | .refused r => .refused r

/-- Nonce bytes staged one after another through NONCE_IN (R101). -/
def stageNonceBytes : List Byte → State → Outcome
  | [], s => .next s
  | b :: rest, s =>
    match exec (.wrNonceIn (zext32 b)) s with
    | .next t => stageNonceBytes rest t
    | .fault f => .fault f
    | .refused r => .refused r

/-- Keystream byte `j` of a message under the key `k` and the nonce `n`: byte `j mod 64` of the block whose counter is
`floor(j / 64)`, modulo 2^32 (R144, R160). -/
def messageKeystream (k : Vector Byte 32) (n : Vector Byte 12) (j : Nat) : Byte :=
  (keystreamBytes ((buildState k n).set 12 (BitVec.ofNat 32 (j / 64))))[j % 64]'(Nat.mod_lt _ (by decide))

/-- A safe answer of a step: the machine goes on. -/
def Safe : Outcome → Prop
  | .next _ => True
  | .fault _ => False
  | .refused _ => False

end Sys2Proof.Machine
end

