-- ==== Sys2Proof/Certificates/Slice0/Obligations.lean ====
section
/-! DEFINITION. The statements about the core, for the provers. Each docstring names the rule or the sections of spec/
it formalises. -/

open Sys2Proof Sys2Proof.Machine

/-! ### Encoding and decoding -/

/-- Every well-formed instruction is what its encoding decodes to (30_encoding.md, sections 1 to 3). -/
def Obligations.DecodeInvertsEncode : Prop :=
  ∀ i : Instr, i.wf = true → decode (encode i) = i

/-- Every encoding decodes to a well-formed instruction whose encoding it is, but for the `wdata` of a read, which has
no meaning: the decoder is total and every transaction has exactly one row (30_encoding.md, section 1). -/
def Obligations.EncodeInvertsDecode : Prop :=
  (∀ e : Encoding, (decode e).wf = true) ∧
  (∀ c : Word, encode (decode (.cmd c)) = .cmd c) ∧
  (∀ (a : BitVec 4) (w : Word), encode (decode (.bus ⟨true, a, w⟩)) = .bus ⟨true, a, w⟩) ∧
  (∀ (a : BitVec 4) (w : Word), encode (decode (.bus ⟨false, a, w⟩)) = .bus ⟨false, a, 0⟩)

/-- Words written out from R73 and R78: two command words, five transaction codes, and a byte that is refused because
its low bits are not 00. The codes and opcodes are the spec's; how a table word carries them is the model's choice (log
entry 4): 32 bits are a command word, 8 bits a transaction code whose `wdata` is 0, and a byte that is no code gives
none. -/
def Obligations.WrittenOutWordsDecode : Prop :=
  decodeTableWord 32 0x00000002 = some .rekey ∧ decodeTableWord 32 0x00000101 = some (.illegalCmd 0x101) ∧
  decodeTableWord 8 0b01010000 = some (.wrKeyIn 0) ∧ decodeTableWord 8 0b00011000 = some .rdStage ∧
  decodeTableWord 8 0b01100100 = some (.wrDataW 0) ∧ decodeTableWord 8 0b01000000 = some (.wrCtrl 0) ∧
  decodeTableWord 8 0b00111100 = some .rdRsv3C ∧ decodeTableWord 8 0b00000001 = none

/-- A write to CMD carries out the command of its word; with a bit of 31:8 set, or an opcode from 0x09 on, it is the
illegal command. The write completes whatever the word (R72). -/
def Obligations.CmdWriteDispatches : Prop :=
  ∀ s : State,
    exec (.wrCmd 0x00) s = exec .nop s ∧ exec (.wrCmd 0x01) s = exec .session s ∧
    exec (.wrCmd 0x02) s = exec .rekey s ∧ exec (.wrCmd 0x03) s = exec .renonce s ∧
    exec (.wrCmd 0x04) s = exec .start s ∧ exec (.wrCmd 0x05) s = exec .endMsg s ∧
    exec (.wrCmd 0x06) s = exec .clrstage s ∧ exec (.wrCmd 0x07) s = exec .clear s ∧
    exec (.wrCmd 0x08) s = exec .clrerr s ∧
    (∀ c : Word, c.extractLsb' 8 24 ≠ 0 ∨ 0x09 ≤ (c.extractLsb' 0 8).toNat →
      exec (.wrCmd c) s = exec (.illegalCmd c) s) ∧
    (∀ c : Word, ∃ t, exec (.wrCmd c) s = .next t ∧ exec (decodeCommandWord c) s = .next t)

/-! ### The step -/

/-- When the transaction that carries a well-formed instruction is the next input of a core that has been reset, the
step is that instruction at the state with the input taken (20_memory.md, sections 3 and 5). -/
def Obligations.StepRunsTheDecodedInstruction : Prop :=
  ∀ (i : Instr) (s : State) (rest : List HostInput), i.wf = true → s.resetDone = true →
    s.inputs = .transact (encode i).transaction :: rest → step s = exec i { s with inputs := rest }

/-- A step on any transaction, with any `wdata`, is the row of its code (30_encoding.md, sections 1 and 3). -/
def Obligations.StepRunsTheRowOfTheTransaction : Prop :=
  ∀ (t : Transaction) (s : State) (rest : List HostInput), s.resetDone = true → s.inputs = .transact t :: rest →
    step s = exec (decodeTransaction t) { s with inputs := rest }

/-- Every transaction completes: no instruction faults or is refused in any state, and a step of a core that has been
reset always answers a next state (30_encoding.md section 1; 60_exceptions.md section 5). -/
def Obligations.EveryTransactionCompletes : Prop :=
  (∀ (i : Instr) (s : State), ∃ t, exec i s = .next t ∧ t.bus.ready = some true ∧ t.inputs = s.inputs) ∧
  (∀ s : State, s.resetDone = true → ∃ t, step s = .next t ∧ t.resetDone = true ∧ t.inputs = s.inputs.tail)

/-- With nothing presented a step changes nothing but what the port shows. The model's reading (log entry 6). -/
def Obligations.NothingPresentedChangesNothing : Prop :=
  ∀ s : State, s.inputs = [] → step s = .next { s with bus := .idle }

/-- Reset, whatever the state and whatever transaction is presented or held: every element takes its value of R241,
`ready` is 0 and `rdata` is 0 meanwhile, and the aborted transaction leaves no effect (70_reset_and_hazards.md,
section 1). X, which R241 leaves unspecified, is not mentioned. -/
def Obligations.ResetOverridesEverything : Prop :=
  ∀ (s : State) (held : Option Transaction) (rest : List HostInput), s.inputs = .reset held :: rest →
    ∃ t, step s = .next t ∧ t.S = Vector.replicate 16 0 ∧ t.round = 0 ∧ t.ks = Vector.replicate 64 0 ∧
      t.ksptr = 64 ∧ t.keybuf = Vector.replicate 32 0 ∧ t.keycnt = 0 ∧ t.noncebuf = Vector.replicate 12 0 ∧
      t.noncecnt = 0 ∧ t.sess = false ∧ t.msg = false ∧ t.ctrwrap = false ∧ t.errf = false ∧ t.result = 0 ∧
      t.ovffail = false ∧ t.dout = 0 ∧ t.bus.ready = some false ∧ t.bus.rdata = some 0 ∧ t.inputs = rest ∧
      t.resetDone = true

/-- The register reads just after reset (R241). -/
def Obligations.RegisterReadsAfterReset : Prop :=
  let r := State.reset
  exec .rdCtrl r = .next { r with bus := .readDone 0 } ∧
  exec .rdStatus r = .next { r with bus := .readDone 0x00400000 } ∧
  exec .rdCtr r = .next { r with bus := .readDone 0 } ∧ exec .rdStage r = .next { r with bus := .readDone 0 } ∧
  exec .rdDout r = .next { r with bus := .readDone 0 } ∧
  (r.S = Vector.replicate 16 0 ∧ r.round = 0 ∧ r.ks = Vector.replicate 64 0 ∧ r.ksptr = 64 ∧
    r.keybuf = Vector.replicate 32 0 ∧ r.keycnt = 0 ∧ r.noncebuf = Vector.replicate 12 0 ∧ r.noncecnt = 0 ∧
    r.sess = false ∧ r.msg = false ∧ r.ctrwrap = false ∧ r.errf = false ∧ r.result = 0 ∧ r.ovffail = false ∧
    r.dout = 0) ∧
  (∀ i : Instr, isRead i = true → i ≠ .rdStatus → exec i r = .next { r with bus := .readDone 0 })

/-- A transaction before the first reset after power-on is refused, whatever the state (R243). -/
def Obligations.RunsBeforeTheFirstResetAreRefused : Prop :=
  ∀ (s : State) (t : Transaction) (rest : List HostInput), s.resetDone = false → s.inputs = .transact t :: rest →
    step s = .refused .beforeFirstReset

/-! ### Invariants -/

/-- The invariants hold after reset. -/
def Obligations.InvariantsHoldAfterReset : Prop := Inv State.reset

/-- Every step keeps the invariants: the five of R25 and those of `Safety.lean` that follow from R27, R28, R33, R35,
R210 and R211 (10_state.md, section 1). -/
def Obligations.StepKeepsTheInvariants : Prop :=
  ∀ s t : State, Inv s → step s = .next t → Inv t

/-! ### Who writes what, over all instructions -/

/-- Only CMD, DATA_B and DATA_W writes write RESULT: with 0 on success, and then ERRF is as it was (CLRERR clears it);
or with a code, and then ERRF is 1. No other instruction touches RESULT or ERRF (R200). -/
def Obligations.ResultIsWrittenByCmdAndDataWritesOnly : Prop :=
  ∀ (i : Instr) (s t : State), exec i s = .next t →
    (reportsResult i = false → t.result = s.result ∧ t.errf = s.errf) ∧
    (reportsResult i = true →
      (t.result = 0 ∧ (t.errf = s.errf ∨ ((i = .clrerr ∨ i = .wrCmd 0x08) ∧ t.errf = false))) ∨
      (1 ≤ t.result.toNat ∧ t.result.toNat ≤ 6 ∧ t.errf = true))

/-- An error is precise: the state is the state before the transaction, except RESULT, ERRF and the stages that
SESSION, REKEY and RENONCE clear, and the transaction completes on the port (60_exceptions.md, section 2). -/
def Obligations.ErrorsArePrecise : Prop :=
  ∀ (i : Instr) (s t : State), exec i s = .next t → reportsResult i = true → t.result ≠ 0 →
    t = { s with result := t.result, errf := true, bus := .writeDone, keybuf := t.keybuf, keycnt := t.keycnt,
                 noncebuf := t.noncebuf, noncecnt := t.noncecnt } ∧
    ((t.keybuf = s.keybuf ∧ t.keycnt = s.keycnt) ∨
      (i ∈ [.session, .rekey, .wrCmd 0x01, .wrCmd 0x02] ∧ t.keybuf = Vector.replicate 32 0 ∧ t.keycnt = 0)) ∧
    ((t.noncebuf = s.noncebuf ∧ t.noncecnt = s.noncecnt) ∨
      (i ∈ [.session, .renonce, .wrCmd 0x01, .wrCmd 0x03] ∧ t.noncebuf = Vector.replicate 12 0 ∧ t.noncecnt = 0))

/-- The key words change only at a successful SESSION or REKEY, at CLEAR and at reset; the nonce words only at a
successful SESSION or RENONCE, at CLEAR and at reset; the constant words only at CLEAR, at reset, and at a successful
SESSION while there is no session (R112). -/
def Obligations.CipherStateChangesOnlyAtCommits : Prop :=
  ∀ s t : State, Inv s → step s = .next t →
    ((∃ held, s.inputs.head? = some (.reset held)) ∨
     (∃ c, s.inputs.head? = some (.transact (busWrite .cmd c)) ∧ t.result = 0 ∧ c = 0x07) ∨
     ((∀ j : Fin 8, t.S[4 + j.val] = s.S[4 + j.val]) ∨
       ∃ c, s.inputs.head? = some (.transact (busWrite .cmd c)) ∧ t.result = 0 ∧ (c = 0x01 ∨ c = 0x02)) ∧
     ((∀ j : Fin 3, t.S[13 + j.val] = s.S[13 + j.val]) ∨
       ∃ c, s.inputs.head? = some (.transact (busWrite .cmd c)) ∧ t.result = 0 ∧ (c = 0x01 ∨ c = 0x03)) ∧
     ((∀ j : Fin 4, t.S[j.val] = s.S[j.val]) ∨
       (s.inputs.head? = some (.transact (busWrite .cmd 0x01)) ∧ t.result = 0 ∧ s.sess = false)))

/-- The block counter is set to 0 by START, the commit commands and CLEAR, advanced by 1 by the data writes, and
written by nothing else (10_state.md section 1; 60_exceptions.md section 7). -/
def Obligations.BlockCounterWriters : Prop :=
  ∀ (i : Instr) (s t : State), exec i s = .next t →
    t.S[12] = s.S[12] ∨
    (t.S[12] = 0 ∧ t.result = 0 ∧
      i ∈ [.start, .session, .rekey, .renonce, .clear, .wrCmd 0x04, .wrCmd 0x01, .wrCmd 0x02, .wrCmd 0x03, .wrCmd 0x07]) ∨
    (t.S[12] = s.S[12] + 1 ∧ t.result = 0 ∧ s.msg = true ∧ ∃ w, i = .wrDataB w ∨ i = .wrDataW w)

/-- SESS is set only by a successful SESSION and cleared only by CLEAR; MSG is set only by a successful START and
cleared only by END, CLEAR and the successful commit commands (10_state.md, section 5). Reset is no instruction. -/
def Obligations.SessionAndMessageFlagWriters : Prop :=
  ∀ (i : Instr) (s t : State), exec i s = .next t →
    (t.sess = s.sess ∨ (t.sess = true ∧ t.result = 0 ∧ i ∈ [.session, .wrCmd 0x01]) ∨
      (t.sess = false ∧ i ∈ [.clear, .wrCmd 0x07])) ∧
    (t.msg = s.msg ∨ (t.msg = true ∧ t.result = 0 ∧ i ∈ [.start, .wrCmd 0x04]) ∨
      (t.msg = false ∧ t.result = 0 ∧
        i ∈ [.endMsg, .session, .rekey, .renonce, .clear, .wrCmd 0x05, .wrCmd 0x01, .wrCmd 0x02, .wrCmd 0x03,
          .wrCmd 0x07]))

/-- CTRWRAP is set only by a data write and only where the counter goes from 0xFFFFFFFF to 0; it is cleared only by
START, the successful commit commands and CLEAR (10_state.md section 5; 41_block_engine.md section 5). -/
def Obligations.WrapFlagWriters : Prop :=
  ∀ (i : Instr) (s t : State), exec i s = .next t →
    t.ctrwrap = s.ctrwrap ∨
    (t.ctrwrap = true ∧ s.S[12] = 0xFFFFFFFF ∧ t.S[12] = 0 ∧ ∃ w, i = .wrDataB w ∨ i = .wrDataW w) ∨
    (t.ctrwrap = false ∧ t.result = 0 ∧
      i ∈ [.start, .session, .rekey, .renonce, .clear, .wrCmd 0x04, .wrCmd 0x01, .wrCmd 0x02, .wrCmd 0x03, .wrCmd 0x07])

/-- OVFFAIL changes only at a CTRL write, and DOUT only at a successful data write and, to 0, at CLEAR
(10_state.md, sections 7 and 8). Reset is no instruction. -/
def Obligations.ControlAndOutputWriters : Prop :=
  ∀ (i : Instr) (s t : State), exec i s = .next t →
    (t.ovffail = s.ovffail ∨ ∃ w, i = .wrCtrl w) ∧
    (t.dout = s.dout ∨ (t.dout = 0 ∧ i ∈ [.clear, .wrCmd 0x07]) ∨
      (t.result = 0 ∧ ∃ w, i = .wrDataB w ∨ i = .wrDataW w))

/-! ### Housekeeping -/

/-- NOP sets RESULT to 0 and leaves ERRF; CLRERR clears both (R190, R191). -/
def Obligations.NopAndClrerr : Prop :=
  encode .nop = .cmd 0x00000000 ∧ encode .clrerr = .cmd 0x00000008 ∧
  ∀ s : State,
    exec .nop s = .next { s with result := 0, bus := .writeDone } ∧
    exec .clrerr s = .next { s with errf := false, result := 0, bus := .writeDone }

/-- A command word with a bit of 31:8 set, whatever its opcode, or with an opcode 0x09 to 0xFF, sets RESULT to 6 and
ERRF to 1, and nothing else changes (R74, R75). -/
def Obligations.IllegalCommandWords : Prop :=
  ∀ (c : Word) (s : State), c.extractLsb' 8 24 ≠ 0 ∨ 0x09 ≤ (c.extractLsb' 0 8).toNat →
    decodeCommandWord c = .illegalCmd c ∧
    exec (.illegalCmd c) s = .next { s with result := 6, errf := true, bus := .writeDone } ∧
    exec (.wrCmd c) s = .next { s with result := 6, errf := true, bus := .writeDone }

/-- A CTRL write takes bit 0 of `wdata` as OVFFAIL and ignores the rest; a CTRL read gives OVFFAIL in bit 0 and 0 in
bits 31:1 (R192, R193). -/
def Obligations.ControlRegister : Prop :=
  encode .rdCtrl = .bus ⟨false, 0b0000, 0⟩ ∧ (∀ w, encode (.wrCtrl w) = .bus ⟨true, 0b0000, w⟩) ∧
  (∀ (w : Word) (s : State), exec (.wrCtrl w) s = .next { s with ovffail := w.getLsbD 0, bus := .writeDone }) ∧
  (∀ s : State, ∃ v : Word, exec .rdCtrl s = .next { s with bus := .readDone v } ∧
    v.getLsbD 0 = s.ovffail ∧ v.extractLsb' 1 31 = 0)

/-- A STATUS read gives every field in its place and 0 in every reserved bit, and changes nothing (R194). -/
def Obligations.StatusRegisterLayout : Prop :=
  encode .rdStatus = .bus ⟨false, 0b0010, 0⟩ ∧
  ∀ s : State, ∃ v : Word, exec .rdStatus s = .next { s with bus := .readDone v } ∧
    v.getLsbD 0 = s.sess ∧ v.getLsbD 1 = s.msg ∧ v.getLsbD 2 = s.ctrwrap ∧ v.getLsbD 3 = s.errf ∧
    v.extractLsb' 4 4 = 0 ∧ v.extractLsb' 8 4 = s.result ∧ v.extractLsb' 12 4 = 0 ∧
    (v.extractLsb' 16 7).toNat = s.ksptr.val ∧ v.extractLsb' 23 9 = 0 ∧ (s = State.reset → v = 0x00400000)

/-- A CTR read gives the block counter, and a STAGE read gives the two counts in their places and 0 elsewhere
(43_control_status.md, section 4). -/
def Obligations.CounterAndStageRegisters : Prop :=
  encode .rdCtr = .bus ⟨false, 0b0011, 0⟩ ∧ encode .rdStage = .bus ⟨false, 0b0110, 0⟩ ∧
  ∀ s : State,
    exec .rdCtr s = .next { s with bus := .readDone s.S[12] } ∧
    ∃ v : Word, exec .rdStage s = .next { s with bus := .readDone v } ∧
      v.extractLsb' 0 6 = s.keycnt ∧ v.extractLsb' 6 2 = 0 ∧ v.extractLsb' 8 6 = s.noncecnt ∧ v.extractLsb' 14 18 = 0

/-- A read of CMD, KEY_IN, NONCE_IN, DATA_B or DATA_W gives 0 and changes nothing (R197, R111, R168); a DOUT read
gives DOUT. -/
def Obligations.WriteOnlyRegistersReadZero : Prop :=
  (∀ p ∈ [(Instr.rdCmd, 0b0001#4), (.rdKeyIn, 0b0100#4), (.rdNonceIn, 0b0101#4), (.rdDataB, 0b1000#4),
      (.rdDataW, 0b1001#4)],
    encode p.1 = .bus ⟨false, p.2, 0⟩ ∧ ∀ s : State, exec p.1 s = .next { s with bus := .readDone 0 }) ∧
  encode .rdDout = .bus ⟨false, 0b1010, 0⟩ ∧
  ∀ s : State, exec .rdDout s = .next { s with bus := .readDone s.dout }

/-- A write to STATUS, CTR, STAGE or DOUT completes and has no effect at all (R198). -/
def Obligations.ReadOnlyRegistersIgnoreWrites : Prop :=
  ∀ w : Word,
    ∀ p ∈ [(Instr.wrStatus w, 0b0010#4), (.wrCtr w, 0b0011#4), (.wrStage w, 0b0110#4), (.wrDout w, 0b1010#4)],
      encode p.1 = .bus ⟨true, p.2, w⟩ ∧ ∀ s : State, exec p.1 s = .next { s with bus := .writeDone }

/-- The reserved offsets 0x1C and 0x2C to 0x3C: a read gives 0, a write has no effect, neither changes anything else
(R199). -/
def Obligations.ReservedOffsets : Prop :=
  ∀ w : Word,
    ∀ p ∈ [(Instr.rdRsv1C, Instr.wrRsv1C w, 0b0111#4), (.rdRsv2C, .wrRsv2C w, 0b1011#4),
        (.rdRsv30, .wrRsv30 w, 0b1100#4), (.rdRsv34, .wrRsv34 w, 0b1101#4), (.rdRsv38, .wrRsv38 w, 0b1110#4),
        (.rdRsv3C, .wrRsv3C w, 0b1111#4)],
      encode p.1 = .bus ⟨false, p.2.2, 0⟩ ∧ encode p.2.1 = .bus ⟨true, p.2.2, w⟩ ∧
      ∀ s : State, exec p.1 s = .next { s with bus := .readDone 0 } ∧
        exec p.2.1 s = .next { s with bus := .writeDone }

/-- Every read is free of side effects and idempotent: it changes nothing but what the port shows, and reading again
shows the same (20_memory.md, section 3). -/
def Obligations.ReadsAreIdempotent : Prop :=
  ∀ (i : Instr) (s : State), isRead i = true →
    ∃ v : Word, exec i s = .next { s with bus := .readDone v } ∧
      exec i { s with bus := .readDone v } = .next { s with bus := .readDone v }

/-- No read tells apart two states that agree on CTRL, STATUS, CTR, STAGE and DOUT, whatever their keys, nonces,
staged bytes and keystream (10_state.md section 1; 60_exceptions.md section 6). -/
def Obligations.ReadsShowNoSecret : Prop :=
  ∀ (i : Instr) (s t s1 t1 : State), isRead i = true → LookAlike s t → exec i s = .next s1 → exec i t = .next t1 →
    s1.bus = t1.bus

/-! ### The state initializer -/

/-- The words of a state that BuildState makes (R102). -/
def Obligations.BuildStateWords : Prop :=
  ∀ (k : Vector Byte 32) (n : Vector Byte 12),
    (buildState k n)[0] = 0x61707865 ∧ (buildState k n)[1] = 0x3320646E ∧ (buildState k n)[2] = 0x79622D32 ∧
    (buildState k n)[3] = 0x6B206574 ∧ (buildState k n)[12] = 0 ∧
    (∀ (i : Fin 8) (j : Fin 4), byteOf (buildState k n)[4 + i.val] j.val = k[4 * i.val + j.val]) ∧
    (∀ (i : Fin 3) (j : Fin 4), byteOf (buildState k n)[13 + i.val] j.val = n[4 * i.val + j.val])

/-- A KEY_IN write stores its byte at the count, if that is below 32, and raises the count by 1 up to 63 (R100). -/
def Obligations.KeyInAppendsOneByte : Prop :=
  (∀ w, encode (.wrKeyIn w) = .bus ⟨true, 0b0100, w⟩) ∧
  (∀ (w : Word) (s : State) (i : Fin 32), s.keycnt.toNat = i.val →
    exec (.wrKeyIn w) s =
      .next { s with keybuf := s.keybuf.set i (w.extractLsb' 0 8), keycnt := s.keycnt + 1, bus := .writeDone }) ∧
  (∀ (w : Word) (s : State), 32 ≤ s.keycnt.toNat → s.keycnt.toNat ≤ 62 →
    exec (.wrKeyIn w) s = .next { s with keycnt := s.keycnt + 1, bus := .writeDone }) ∧
  (∀ (w : Word) (s : State), s.keycnt.toNat = 63 → exec (.wrKeyIn w) s = .next { s with bus := .writeDone })

/-- A NONCE_IN write stores its byte at the count, if that is below 12, and raises the count by 1 up to 63 (R101). -/
def Obligations.NonceInAppendsOneByte : Prop :=
  (∀ w, encode (.wrNonceIn w) = .bus ⟨true, 0b0101, w⟩) ∧
  (∀ (w : Word) (s : State) (i : Fin 12), s.noncecnt.toNat = i.val →
    exec (.wrNonceIn w) s =
      .next { s with noncebuf := s.noncebuf.set i (w.extractLsb' 0 8), noncecnt := s.noncecnt + 1,
                     bus := .writeDone }) ∧
  (∀ (w : Word) (s : State), 12 ≤ s.noncecnt.toNat → s.noncecnt.toNat ≤ 62 →
    exec (.wrNonceIn w) s = .next { s with noncecnt := s.noncecnt + 1, bus := .writeDone }) ∧
  (∀ (w : Word) (s : State), s.noncecnt.toNat = 63 → exec (.wrNonceIn w) s = .next { s with bus := .writeDone })

/-- Bytes staged from a cleared stage: the count is how many were written, saturating at 63, and the buffer holds the
first of them in order, with 0 after them (10_state.md R25 e and section 4). -/
def Obligations.StagedBytesAreTheFirstWritten : Prop :=
  (∀ (bs : List Byte) (s : State), s.keycnt = 0 → s.keybuf = Vector.replicate 32 0 →
    ∃ t, stageKeyBytes bs s = .next t ∧ t.keycnt.toNat = min bs.length 63 ∧
      (∀ i : Fin 32, t.keybuf[i] = bs.getD i.val 0) ∧
      t = { s with keybuf := t.keybuf, keycnt := t.keycnt, bus := t.bus }) ∧
  (∀ (bs : List Byte) (s : State), s.noncecnt = 0 → s.noncebuf = Vector.replicate 12 0 →
    ∃ t, stageNonceBytes bs s = .next t ∧ t.noncecnt.toNat = min bs.length 63 ∧
      (∀ i : Fin 12, t.noncebuf[i] = bs.getD i.val 0) ∧
      t = { s with noncebuf := t.noncebuf, noncecnt := t.noncecnt, bus := t.bus })

/-- SESSION: both stages are cleared on success and on failure; the key length is checked first; success builds the
state, opens the session and ends any message (R105). -/
def Obligations.SessionOutcomes : Prop :=
  encode .session = .cmd 0x00000001 ∧
  ∀ s : State,
    (s.keycnt ≠ 32 →
      exec .session s =
        .next { s with keycnt := 0, keybuf := Vector.replicate 32 0, noncecnt := 0, noncebuf := Vector.replicate 12 0,
                       result := 1, errf := true, bus := .writeDone }) ∧
    (s.keycnt = 32 → s.noncecnt ≠ 12 →
      exec .session s =
        .next { s with keycnt := 0, keybuf := Vector.replicate 32 0, noncecnt := 0, noncebuf := Vector.replicate 12 0,
                       result := 2, errf := true, bus := .writeDone }) ∧
    (s.keycnt = 32 → s.noncecnt = 12 →
      exec .session s =
        .next { s with keycnt := 0, keybuf := Vector.replicate 32 0, noncecnt := 0, noncebuf := Vector.replicate 12 0,
                       S := buildState s.keybuf s.noncebuf, sess := true, msg := false, ksptr := 64,
                       ks := Vector.replicate 64 0, ctrwrap := false, result := 0, bus := .writeDone })

/-- REKEY: the key stage is cleared on success and on failure; the session is checked first; success replaces the key
words, sets the counter to 0, leaves the nonce words and the constant words, and ends any message (R106). -/
def Obligations.RekeyOutcomes : Prop :=
  encode .rekey = .cmd 0x00000002 ∧
  ∀ s : State,
    (s.sess = false →
      exec .rekey s =
        .next { s with keycnt := 0, keybuf := Vector.replicate 32 0, result := 3, errf := true, bus := .writeDone }) ∧
    (s.sess = true → s.keycnt ≠ 32 →
      exec .rekey s =
        .next { s with keycnt := 0, keybuf := Vector.replicate 32 0, result := 1, errf := true, bus := .writeDone }) ∧
    (s.sess = true → s.keycnt = 32 →
      exec .rekey s =
        .next { s with keycnt := 0, keybuf := Vector.replicate 32 0,
                       S := #v[0x61707865, 0x3320646E, 0x79622D32, 0x6B206574, keyWord s.keybuf 0, keyWord s.keybuf 1,
                         keyWord s.keybuf 2, keyWord s.keybuf 3, keyWord s.keybuf 4, keyWord s.keybuf 5,
                         keyWord s.keybuf 6, keyWord s.keybuf 7, 0, s.S[13], s.S[14], s.S[15]],
                       msg := false, ksptr := 64, ks := Vector.replicate 64 0, ctrwrap := false, result := 0,
                       bus := .writeDone }) ∧
    (s.sess = true → s.keycnt = 32 → ConstantsInSession s →
      ∃ t, exec .rekey s = .next t ∧ ∀ j : Fin 4, t.S[j.val] = s.S[j.val])

/-- RENONCE: the nonce stage is cleared on success and on failure; the session is checked first; success replaces the
nonce words, sets the counter to 0, leaves the key words and the constant words, and ends any message (R107). -/
def Obligations.RenonceOutcomes : Prop :=
  encode .renonce = .cmd 0x00000003 ∧
  ∀ s : State,
    (s.sess = false →
      exec .renonce s =
        .next { s with noncecnt := 0, noncebuf := Vector.replicate 12 0, result := 3, errf := true,
                       bus := .writeDone }) ∧
    (s.sess = true → s.noncecnt ≠ 12 →
      exec .renonce s =
        .next { s with noncecnt := 0, noncebuf := Vector.replicate 12 0, result := 2, errf := true,
                       bus := .writeDone }) ∧
    (s.sess = true → s.noncecnt = 12 →
      exec .renonce s =
        .next { s with noncecnt := 0, noncebuf := Vector.replicate 12 0,
                       S := #v[0x61707865, 0x3320646E, 0x79622D32, 0x6B206574, s.S[4], s.S[5], s.S[6], s.S[7], s.S[8],
                         s.S[9], s.S[10], s.S[11], 0, nonceWord s.noncebuf 0, nonceWord s.noncebuf 1,
                         nonceWord s.noncebuf 2],
                       msg := false, ksptr := 64, ks := Vector.replicate 64 0, ctrwrap := false, result := 0,
                       bus := .writeDone }) ∧
    (s.sess = true → s.noncecnt = 12 → ConstantsInSession s →
      ∃ t, exec .renonce s = .next t ∧ ∀ j : Fin 4, t.S[j.val] = s.S[j.val])

/-- CLRSTAGE clears both stages and RESULT (R108). CLEAR zeroizes: every element it writes is at its reset value, and
ERRF and OVFFAIL are as they were (R109). That CLEAR leaves X, ROUND and the model's own fields alone is the model's
choice (log entry 18). -/
def Obligations.ClearCommands : Prop :=
  encode .clrstage = .cmd 0x00000006 ∧ encode .clear = .cmd 0x00000007 ∧
  ∀ s : State,
    exec .clrstage s =
      .next { s with keycnt := 0, keybuf := Vector.replicate 32 0, noncecnt := 0, noncebuf := Vector.replicate 12 0,
                     result := 0, bus := .writeDone } ∧
    exec .clear s =
      .next { State.reset with errf := s.errf, ovffail := s.ovffail, X := s.X, round := s.round, bus := .writeDone,
                               inputs := s.inputs, resetDone := s.resetDone, xDraws := s.xDraws }

/-! ### The block engine -/

/-- The four steps of a quarter-round on four distinct slots; the other slots are not written (R131). -/
def Obligations.QuarterRoundSteps : Prop :=
  ∀ (a b c d : Fin 16) (X : Vector Word 16), [a, b, c, d].Nodup →
    let a1 := X[a] + X[b]
    let d1 := rotl (X[d] ^^^ a1) 16
    let c1 := X[c] + d1
    let b1 := rotl (X[b] ^^^ c1) 12
    let a2 := a1 + b1
    let d2 := rotl (d1 ^^^ a2) 8
    let c2 := c1 + d2
    let b2 := rotl (b1 ^^^ c2) 7
    (quarterRound a b c d X)[a] = a2 ∧ (quarterRound a b c d X)[b] = b2 ∧ (quarterRound a b c d X)[c] = c2 ∧
    (quarterRound a b c d X)[d] = d2 ∧ ∀ i : Fin 16, i ∉ [a, b, c, d] → (quarterRound a b c d X)[i] = X[i]

/-- `rotl(v, n)` for 0 < n < 32 moves bit `i` of the word to bit `i + n` modulo 32: no bit is lost and none is new
(00_scope.md, section 5, R11). -/
def Obligations.RotationMovesEveryBit : Prop :=
  ∀ (v : Word) (n i : Nat), 0 < n → n < 32 → i < 32 → (rotl v n).getLsbD ((i + n) % 32) = v.getLsbD i

/-- `Permute` is ten double rounds, the column round first, 20 single rounds in all: round `r` is a column round where
`r` is odd and a diagonal round where it is even (R134). The last clause is the rule's example. -/
def Obligations.PermuteIsTenDoubleRounds : Prop :=
  (∀ X : Vector Word 16, permute X = (fun Y => diagonalRound (columnRound Y))^[10] X) ∧
  (∀ X : Vector Word 16, permute X = (List.range' 1 20).foldl (fun Y r => singleRound r Y) X) ∧
  (∀ (r : Nat) (X : Vector Word 16),
    (r % 2 = 1 → singleRound r X = columnRound X) ∧ (r % 2 = 0 → singleRound r X = diagonalRound X)) ∧
  (permute (buildState (Vector.replicate 32 0) (Vector.replicate 12 0)))[0] = 0x4C704011

/-- Quarter-rounds on disjoint slots may run in either order; the groups of a column round and of a diagonal round are
disjoint (41_block_engine.md, section 6). -/
def Obligations.DisjointQuarterRoundsCommute : Prop :=
  (∀ (a b c d e f g h : Fin 16) (X : Vector Word 16), [a, b, c, d, e, f, g, h].Nodup →
    quarterRound a b c d (quarterRound e f g h X) = quarterRound e f g h (quarterRound a b c d X)) ∧
  (∀ X : Vector Word 16,
    columnRound X = quarterRound 0 4 8 12 (quarterRound 1 5 9 13 (quarterRound 2 6 10 14 (quarterRound 3 7 11 15 X))) ∧
    diagonalRound X =
      quarterRound 0 5 10 15 (quarterRound 1 6 11 12 (quarterRound 2 7 8 13 (quarterRound 3 4 9 14 X))))

/-- Each step of a quarter-round, a quarter-round on distinct slots, both rounds and `Permute` are bijections (R143). -/
def Obligations.PermuteIsBijective : Prop :=
  (∀ (a b d : Fin 16) (n : Nat), [a, b, d].Nodup → n ∈ [16, 12, 8, 7] → Function.Bijective (addXorRotate a b d n)) ∧
  (∀ a b c d : Fin 16, [a, b, c, d].Nodup → Function.Bijective (quarterRound a b c d)) ∧
  Function.Bijective columnRound ∧ Function.Bijective diagonalRound ∧ Function.Bijective permute

/-- Word `i` of the block is word `i` of the permuted state plus the state's (R136), and byte `4i + j` of the keystream
is its byte `j`, least significant first (R137). -/
def Obligations.KeystreamBytesLayout : Prop :=
  ∀ (S : Vector Word 16) (i : Fin 16),
    (block S)[i] = (permute S)[i] + S[i] ∧
    ∀ j : Fin 4, (keystreamBytes S)[4 * i.val + j.val] = ((block S)[i]).extractLsb' (8 * j.val) 8

/-- The reference micro-schedule: ROUND is `r` after the load and `r` rounds, and the 22 steps leave what `GenBlock`
leaves in everything but X, which is unspecified then (R142). -/
def Obligations.PipelineRefinesGenBlock : Prop :=
  (∀ (s : State) (r : Nat), r ≤ 20 → (pipelineRound^[r] (pipelineLoad s)).round.val = r) ∧
  (∀ s : State, (pipelineRound^[20] (pipelineLoad s)).X = permute s.S) ∧
  (∀ s : State, { pipelineRun s with X := (genBlock s).X, xDraws := (genBlock s).xDraws } = genBlock s)

/-! ### The keystream XOR combiner -/

/-- START opens a message at block 0 and generates no block; without a session it raises NoSession (R161). END closes
the message, discards the leftover keystream and never fails; with no message open it changes nothing but RESULT
(R162). -/
def Obligations.StartAndEnd : Prop :=
  encode .start = .cmd 0x00000004 ∧ encode .endMsg = .cmd 0x00000005 ∧
  ScriptLine.cmdEncrypt.expand = ScriptLine.expand (.cmd .start) ∧
  ScriptLine.cmdDecrypt.expand = ScriptLine.expand (.cmd .start) ∧
  ∀ s : State,
    (s.sess = false → exec .start s = .next { s with result := 3, errf := true, bus := .writeDone }) ∧
    (s.sess = true →
      exec .start s =
        .next { s with S := s.S.set 12 0, ksptr := 64, ks := Vector.replicate 64 0, ctrwrap := false, msg := true,
                       result := 0, bus := .writeDone }) ∧
    exec .endMsg s =
      .next { s with msg := false, ksptr := 64, ks := Vector.replicate 64 0, result := 0, bus := .writeDone } ∧
    (s.msg = false → NoKeystreamOutsideMessage s →
      exec .endMsg s = .next { s with result := 0, bus := .writeDone })

/-- DATA_B: NoMessage without a message; OverflowError where a block is needed, the counter has wrapped and OVFFAIL is
1; otherwise the byte is combined with the next keystream byte, after a new block where none is left (R164). -/
def Obligations.DataByteOutcomes : Prop :=
  (∀ w, encode (.wrDataB w) = .bus ⟨true, 0b1000, w⟩) ∧
  ∀ (w : Word) (s : State),
    (s.msg = false → exec (.wrDataB w) s = .next { s with result := 4, errf := true, bus := .writeDone }) ∧
    (s.msg = true → s.ksptr = 64 → s.ctrwrap = true → s.ovffail = true →
      exec (.wrDataB w) s = .next { s with result := 5, errf := true, bus := .writeDone }) ∧
    (∀ i : Fin 64, s.msg = true → s.ksptr = i.castSucc →
      exec (.wrDataB w) s =
        .next { s with ksptr := i.succ, dout := (w.extractLsb' 0 8 ^^^ s.ks[i]).setWidth 32, result := 0,
                       bus := .writeDone }) ∧
    (s.msg = true → s.ksptr = 64 → s.ctrwrap = false ∨ s.ovffail = false →
      ∃ t, exec (.wrDataB w) s = .next t ∧ busCycles (.wrDataB w) s = Config.tBlock ∧
        t = { s with ks := keystreamBytes s.S, ctrwrap := s.ctrwrap || decide (s.S[12] = 0xFFFFFFFF),
                     S := s.S.set 12 (s.S[12] + 1), ksptr := 1, round := 0,
                     dout := (w.extractLsb' 0 8 ^^^ (keystreamBytes s.S)[0]).setWidth 32, result := 0,
                     bus := .writeDone, X := t.X, xDraws := t.xDraws })

/-- DATA_W: NoMessage without a message; OverflowError where a block falls within the word, the counter has wrapped
and OVFFAIL is 1; otherwise byte `j` of the word is combined with byte `KSPTR + j` of KS followed by the next block,
which is generated exactly where KSPTR is above 60 (R165). -/
def Obligations.DataWordOutcomes : Prop :=
  (∀ w, encode (.wrDataW w) = .bus ⟨true, 0b1001, w⟩) ∧
  ∀ (w : Word) (s : State),
    (s.msg = false → exec (.wrDataW w) s = .next { s with result := 4, errf := true, bus := .writeDone }) ∧
    (s.msg = true → 60 < s.ksptr.val → s.ctrwrap = true → s.ovffail = true →
      exec (.wrDataW w) s = .next { s with result := 5, errf := true, bus := .writeDone }) ∧
    (s.msg = true → s.ksptr.val ≤ 60 →
      ∃ t, exec (.wrDataW w) s = .next t ∧ t.ksptr.val = s.ksptr.val + 4 ∧
        (∀ j : Fin 4, ∃ k, s.ks[s.ksptr.val + j.val]? = some k ∧ byteOf t.dout j.val = byteOf w j.val ^^^ k) ∧
        t = { s with ksptr := t.ksptr, dout := t.dout, result := 0, bus := .writeDone }) ∧
    (s.msg = true → 60 < s.ksptr.val → s.ctrwrap = false ∨ s.ovffail = false →
      ∃ t, exec (.wrDataW w) s = .next t ∧ t.ksptr.val = s.ksptr.val - 60 ∧
        (∀ j : Fin 4, ∃ k, (s.ks ++ keystreamBytes s.S)[s.ksptr.val + j.val]? = some k ∧
          byteOf t.dout j.val = byteOf w j.val ^^^ k) ∧
        t = { s with ks := keystreamBytes s.S, ctrwrap := s.ctrwrap || decide (s.S[12] = 0xFFFFFFFF),
                     S := s.S.set 12 (s.S[12] + 1), ksptr := t.ksptr, round := 0, dout := t.dout, result := 0,
                     bus := .writeDone, X := t.X, xDraws := t.xDraws })

/-- A DATA_W write whose overflow check passes is four DATA_B writes of its bytes in stream order, their outputs
packed into DOUT (42_stream_cipher.md R165, corner cases). -/
def Obligations.DataWordIsFourDataBytes : Prop :=
  ∀ (w : Word) (s : State), s.msg = true → ¬ (60 < s.ksptr.val ∧ s.ctrwrap = true ∧ s.ovffail = true) →
    ∃ t0 t1 t2 t3 t,
      exec (.wrDataB (w.extractLsb' 0 8 |>.setWidth 32)) s = .next t0 ∧
      exec (.wrDataB (w.extractLsb' 8 8 |>.setWidth 32)) t0 = .next t1 ∧
      exec (.wrDataB (w.extractLsb' 16 8 |>.setWidth 32)) t1 = .next t2 ∧
      exec (.wrDataB (w.extractLsb' 24 8 |>.setWidth 32)) t2 = .next t3 ∧
      t0.result = 0 ∧ t1.result = 0 ∧ t2.result = 0 ∧ t3.result = 0 ∧
      exec (.wrDataW w) s = .next t ∧
      t = { t3 with dout := le32 (byteOf t0.dout 0) (byteOf t1.dout 0) (byteOf t2.dout 0) (byteOf t3.dout 0) }

/-- With OVFFAIL = 0 a data write made while a message is open never fails (60_exceptions.md, section 1). -/
def Obligations.DataWritesCannotFailWhenWrapping : Prop :=
  ∀ (w : Word) (s : State), s.msg = true → s.ovffail = false →
    (∃ t, exec (.wrDataB w) s = .next t ∧ t.result = 0 ∧ t.errf = s.errf) ∧
    (∃ t, exec (.wrDataW w) s = .next t ∧ t.result = 0 ∧ t.errf = s.errf)

/-- A CTRL write within an open message takes effect at the next block request: with the counter wrapped, setting
OVFFAIL makes it fail with OverflowError and clearing it lets it pass, at either data port (R255). -/
def Obligations.OverflowPolicyTakesEffectAtTheNextBlock : Prop :=
  ∀ (v w : Word) (s : State), s.msg = true → s.ctrwrap = true →
    ∃ t, exec (.wrCtrl v) s = .next t ∧ t = { s with ovffail := v.getLsbD 0, bus := .writeDone } ∧
      (s.ksptr = 64 → ∃ u, exec (.wrDataB w) t = .next u ∧
        (v.getLsbD 0 = true → u = { t with result := 5, errf := true }) ∧
        (v.getLsbD 0 = false → u.result = 0 ∧ u.S[12] = s.S[12] + 1)) ∧
      (60 < s.ksptr.val → ∃ u, exec (.wrDataW w) t = .next u ∧
        (v.getLsbD 0 = true → u = { t with result := 5, errf := true }) ∧
        (v.getLsbD 0 = false → u.result = 0 ∧ u.S[12] = s.S[12] + 1))

/-! ### Messages -/

/-- A message in a session with the key `k` and the nonce `n`, its data split into DATA_B and DATA_W writes in any
way, gives the data XOR-combined with the keystream from block 0, whatever was going on in the session before; and
`transform` is the message of DATA_B writes (R167). -/
def Obligations.TransformXorsTheKeystream : Prop :=
  (∀ data : List Byte, (ScriptLine.transform data).expand = scriptMessage (data.map .byte) ++ [scriptCmd .endMsg]) ∧
  ∀ (k : Vector Byte 32) (n : Vector Byte 12) (ws : List DataWrite) (s : State),
    s.resetDone = true → s.sess = true → s.S.set 12 0 = buildState k n →
    s.ovffail = false ∨ (streamOf ws).length ≤ 2 ^ 38 →
    ∃ run, runSteps (scriptMessage ws ++ [scriptCmd .endMsg]) s = .next run ∧ run.shown.length = ws.length ∧
      outputOf ws run.shown = (streamOf ws).mapIdx fun j d => d ^^^ messageKeystream k n j

/-- Encryption and decryption are the same operation: `transform` of the output of `transform`, in the session the
first leaves, gives the data back (R169). -/
def Obligations.TransformTwiceGivesTheDataBack : Prop :=
  ∀ (k : Vector Byte 32) (n : Vector Byte 12) (data : List Byte) (s : State),
    s.resetDone = true → s.sess = true → s.S.set 12 0 = buildState k n →
    s.ovffail = false ∨ data.length ≤ 2 ^ 38 →
    ∃ run back, runSteps (ScriptLine.transform data).expand s = .next run ∧
      runSteps (ScriptLine.transform (run.shown.map fun v => byteOf v 0)).expand run.final = .next back ∧
      back.shown = data.map zext32

/-- Prefix property: two messages under the same key and nonce, in whatever states they start and however their data is
split, whose streams share their first `m` bytes give the same first `m` output bytes, whatever follows
(42_stream_cipher.md, section 4). With OVFFAIL = 1 the outputs are those of accepted writes: the message fits in 2^38
bytes, or the `m` bytes end so far below that the write that carries the last of them does. And the values read in one
message do not depend on the writes that follow, refused ones among them. -/
def Obligations.OutputDependsOnThePrefixOnly : Prop :=
  (∀ (m : Nat) (ws1 ws2 : List DataWrite) (s1 s2 : State),
    s1.resetDone = true → s2.resetDone = true → s1.sess = true → s2.sess = true →
    s1.S.set 12 0 = s2.S.set 12 0 → (streamOf ws1).take m = (streamOf ws2).take m →
    (s1.ovffail = false ∨ (streamOf ws1).length ≤ 2 ^ 38 ∨ m + 3 ≤ 2 ^ 38) →
    (s2.ovffail = false ∨ (streamOf ws2).length ≤ 2 ^ 38 ∨ m + 3 ≤ 2 ^ 38) →
    ∃ run1 run2, runSteps (scriptMessage ws1) s1 = .next run1 ∧ runSteps (scriptMessage ws2) s2 = .next run2 ∧
      run1.shown.length = ws1.length ∧ run2.shown.length = ws2.length ∧
      (outputOf ws1 run1.shown).take m = (outputOf ws2 run2.shown).take m) ∧
  (∀ (ws more : List DataWrite) (s : State), s.resetDone = true → s.sess = true →
    ∃ run longer, runSteps (scriptMessage ws) s = .next run ∧
      runSteps (scriptMessage (ws ++ more)) s = .next longer ∧
      run.shown.length = ws.length ∧ longer.shown.take ws.length = run.shown)

/-- A message of N bytes, split in any way and with no wrap, gives N output bytes; after it CTR is ceil(N / 64) and
KSPTR is ((N - 1) mod 64) + 1, or 0 and 64 for N = 0, where no block is generated; and its END leaves CTR (R170). -/
def Obligations.CounterAfterAMessage : Prop :=
  ∀ (ws : List DataWrite) (s : State), s.resetDone = true → s.sess = true →
    (streamOf ws).length ≤ 64 * (2 ^ 32 - 1) →
    ∃ run, runSteps (scriptMessage ws) s = .next run ∧
      (outputOf ws run.shown).length = (streamOf ws).length ∧
      run.final.S[12].toNat = ((streamOf ws).length + 63) / 64 ∧ run.final.ctrwrap = false ∧
      (ws = [] → run.final.ksptr = 64) ∧
      (ws ≠ [] → run.final.ksptr.val = ((streamOf ws).length - 1) % 64 + 1) ∧
      (∃ t, exec .endMsg run.final = .next t ∧ t.S = run.final.S)

/-- A transaction that is held takes T_BLOCK cycles and every other takes T_REG, both at least 1; and what is held is
exactly a data write that generates a block (R252). T_BLOCK and T_REG are uninterpreted, and no step depends on them
(log entry 12). -/
def Obligations.HoldsOnlyWhileABlockIsComputed : Prop :=
  1 ≤ Config.tBlock ∧ 1 ≤ Config.tReg ∧
  ∀ (i : Instr) (s t : State), exec i s = .next t →
    (holdsForBlock i s = true → busCycles i s = Config.tBlock) ∧
    (holdsForBlock i s = false → busCycles i s = Config.tReg) ∧
    (holdsForBlock i s = true ↔ (∃ w, i = .wrDataB w ∨ i = .wrDataW w) ∧ t.S[12] ≠ s.S[12])
end

