-- ==== Sys2Proof/Laws/Decode.lean ====
section
/-! SUPPORT. What the decoder's pieces say: the register indices are a bijection, and a word has a command exactly where
it is one of the nine command words. -/

namespace Sys2Proof.Laws

@[simp] theorem ofIndex_index (r : Reg) : Reg.ofIndex r.index = r := by cases r <;> rfl

@[simp] theorem index_ofIndex (a : BitVec 4) : (Reg.ofIndex a).index = a := by
  revert a
  decide

theorem toNat_eq_fields (c : Word) : c.toNat = 256 * (rsvField c).toNat + (opField c).toNat := by
  simp only [rsvField, opField, BitVec.extractLsb'_toNat, Nat.shiftRight_eq_div_pow]
  have := c.isLt
  omega

/-- `decodeOp` answers exactly on the opcodes of R73. -/
theorem decodeOp_op (k : Command) : decodeOp k.op = some k := by cases k <;> rfl

theorem decodeOp_some {op : Byte} {k : Command} (h : decodeOp op = some k) : op = k.op := by
  revert op k
  decide +revert

theorem decodeOp_none_iff (op : Byte) : decodeOp op = none ↔ 0x09 ≤ op.toNat := by
  revert op
  decide

/-- A word has a command exactly where it is that command's word (R72, R73). -/
theorem decodeCommand_word (k : Command) : decodeCommand k.word = some k := by cases k <;> rfl

theorem decodeCommand_some {c : Word} {k : Command} (h : decodeCommand c = some k) : c = k.word := by
  unfold decodeCommand at h
  split at h
  · cases h
  · rename_i hr
    have hop := decodeOp_some h
    have hc := toNat_eq_fields c
    rw [hop, not_not.mp hr] at hc
    apply BitVec.eq_of_toNat_eq
    rw [hc]
    cases k <;> rfl

/-- A word has no command exactly where RSV is not 0 or OP is reserved (R74, R75). -/
theorem decodeCommand_none_iff (c : Word) :
    decodeCommand c = none ↔ rsvField c ≠ 0 ∨ 0x09 ≤ (opField c).toNat := by
  unfold decodeCommand
  split
  · simp_all
  · simp_all [decodeOp_none_iff]

theorem decodeCommand_none_iff_wf (c : Word) : decodeCommand c = none ↔ (Instr.illegalCmd c).wf = true := by
  rw [decodeCommand_none_iff]
  have hc := toNat_eq_fields c
  have ho := (opField c).isLt
  simp only [Instr.wf, isCommandWord, Bool.not_eq_true', decide_eq_false_iff_not, not_le]
  constructor
  · rintro (h | h)
    · have : (rsvField c).toNat ≠ 0 := fun h0 => h (BitVec.eq_of_toNat_eq h0)
      omega
    · omega
  · intro h
    by_cases h0 : rsvField c = 0
    · rw [h0] at hc
      right
      simp at hc
      omega
    · exact Or.inl h0

theorem decodeCommandWord_word (k : Command) : decodeCommandWord k.word = Instr.ofCommand k := by
  simp [decodeCommandWord, decodeCommand_word]

theorem decodeCommandWord_illegal {c : Word} (h : decodeCommand c = none) : decodeCommandWord c = .illegalCmd c := by
  simp [decodeCommandWord, h]

/-- The decoder of the port, on the transactions the encoder makes. -/
@[simp] theorem decodeTransaction_busWrite (r : Reg) (w : Word) : decodeTransaction (busWrite r w) = decodeWrite r w := by
  simp [decodeTransaction, busWrite]

@[simp] theorem decodeTransaction_busRead (r : Reg) : decodeTransaction (busRead r) = decodeRead r := by
  simp [decodeTransaction, busRead]

theorem code_fields (we : Bool) (a : BitVec 4) :
    ((BitVec.ofBool we ++ a ++ 0b00#2).setWidth 8).getLsbD 7 = false ∧
    ((BitVec.ofBool we ++ a ++ 0b00#2).setWidth 8).extractLsb' 0 2 = 0 ∧
    ((BitVec.ofBool we ++ a ++ 0b00#2).setWidth 8).getLsbD 6 = we ∧
    ((BitVec.ofBool we ++ a ++ 0b00#2).setWidth 8).extractLsb' 2 4 = a := by
  revert we a
  decide

/-- A transaction code decodes to the transaction it was made from (R70). -/
theorem decodeTransactionCode_code (t : Transaction) :
    decodeTransactionCode (t.code.setWidth 8) t.wdata = .ok t := by
  obtain ⟨h7, h0, h6, h2⟩ := code_fields t.we t.addr
  simp only [decodeTransactionCode, Transaction.code, h7, h0, h6, h2]
  rfl

end Sys2Proof.Laws
end

