-- ==== Sys2Proof/Laws/State.lean ====
section
/-! SUPPORT. One lemma per field per named update of the state, so that no later proof unfolds a record update. -/

namespace Sys2Proof.Laws
open Sys2Proof.Machine

@[simp] theorem raise_S (e : ErrorCode) (s : State) : (raise e s).S = s.S := rfl
@[simp] theorem raise_X (e : ErrorCode) (s : State) : (raise e s).X = s.X := rfl
@[simp] theorem raise_round (e : ErrorCode) (s : State) : (raise e s).round = s.round := rfl
@[simp] theorem raise_ks (e : ErrorCode) (s : State) : (raise e s).ks = s.ks := rfl
@[simp] theorem raise_ksptr (e : ErrorCode) (s : State) : (raise e s).ksptr = s.ksptr := rfl
@[simp] theorem raise_keybuf (e : ErrorCode) (s : State) : (raise e s).keybuf = s.keybuf := rfl
@[simp] theorem raise_keycnt (e : ErrorCode) (s : State) : (raise e s).keycnt = s.keycnt := rfl
@[simp] theorem raise_noncebuf (e : ErrorCode) (s : State) : (raise e s).noncebuf = s.noncebuf := rfl
@[simp] theorem raise_noncecnt (e : ErrorCode) (s : State) : (raise e s).noncecnt = s.noncecnt := rfl
@[simp] theorem raise_sess (e : ErrorCode) (s : State) : (raise e s).sess = s.sess := rfl
@[simp] theorem raise_msg (e : ErrorCode) (s : State) : (raise e s).msg = s.msg := rfl
@[simp] theorem raise_ctrwrap (e : ErrorCode) (s : State) : (raise e s).ctrwrap = s.ctrwrap := rfl
@[simp] theorem raise_errf (e : ErrorCode) (s : State) : (raise e s).errf = true := rfl
@[simp] theorem raise_result (e : ErrorCode) (s : State) : (raise e s).result = e.code := rfl
@[simp] theorem raise_ovffail (e : ErrorCode) (s : State) : (raise e s).ovffail = s.ovffail := rfl
@[simp] theorem raise_dout (e : ErrorCode) (s : State) : (raise e s).dout = s.dout := rfl
@[simp] theorem raise_bus (e : ErrorCode) (s : State) : (raise e s).bus = s.bus := rfl
@[simp] theorem raise_inputs (e : ErrorCode) (s : State) : (raise e s).inputs = s.inputs := rfl
@[simp] theorem raise_resetDone (e : ErrorCode) (s : State) : (raise e s).resetDone = s.resetDone := rfl
@[simp] theorem raise_xDraws (e : ErrorCode) (s : State) : (raise e s).xDraws = s.xDraws := rfl

@[simp] theorem clearErrorFlag_S (s : State) : (clearErrorFlag s).S = s.S := rfl
@[simp] theorem clearErrorFlag_X (s : State) : (clearErrorFlag s).X = s.X := rfl
@[simp] theorem clearErrorFlag_round (s : State) : (clearErrorFlag s).round = s.round := rfl
@[simp] theorem clearErrorFlag_ks (s : State) : (clearErrorFlag s).ks = s.ks := rfl
@[simp] theorem clearErrorFlag_ksptr (s : State) : (clearErrorFlag s).ksptr = s.ksptr := rfl
@[simp] theorem clearErrorFlag_keybuf (s : State) : (clearErrorFlag s).keybuf = s.keybuf := rfl
@[simp] theorem clearErrorFlag_keycnt (s : State) : (clearErrorFlag s).keycnt = s.keycnt := rfl
@[simp] theorem clearErrorFlag_noncebuf (s : State) : (clearErrorFlag s).noncebuf = s.noncebuf := rfl
@[simp] theorem clearErrorFlag_noncecnt (s : State) : (clearErrorFlag s).noncecnt = s.noncecnt := rfl
@[simp] theorem clearErrorFlag_sess (s : State) : (clearErrorFlag s).sess = s.sess := rfl
@[simp] theorem clearErrorFlag_msg (s : State) : (clearErrorFlag s).msg = s.msg := rfl
@[simp] theorem clearErrorFlag_ctrwrap (s : State) : (clearErrorFlag s).ctrwrap = s.ctrwrap := rfl
@[simp] theorem clearErrorFlag_errf (s : State) : (clearErrorFlag s).errf = false := rfl
@[simp] theorem clearErrorFlag_result (s : State) : (clearErrorFlag s).result = s.result := rfl
@[simp] theorem clearErrorFlag_ovffail (s : State) : (clearErrorFlag s).ovffail = s.ovffail := rfl
@[simp] theorem clearErrorFlag_dout (s : State) : (clearErrorFlag s).dout = s.dout := rfl
@[simp] theorem clearErrorFlag_bus (s : State) : (clearErrorFlag s).bus = s.bus := rfl
@[simp] theorem clearErrorFlag_inputs (s : State) : (clearErrorFlag s).inputs = s.inputs := rfl
@[simp] theorem clearErrorFlag_resetDone (s : State) : (clearErrorFlag s).resetDone = s.resetDone := rfl
@[simp] theorem clearErrorFlag_xDraws (s : State) : (clearErrorFlag s).xDraws = s.xDraws := rfl

@[simp] theorem ok_S (s : State) : (ok s).S = s.S := rfl
@[simp] theorem ok_X (s : State) : (ok s).X = s.X := rfl
@[simp] theorem ok_round (s : State) : (ok s).round = s.round := rfl
@[simp] theorem ok_ks (s : State) : (ok s).ks = s.ks := rfl
@[simp] theorem ok_ksptr (s : State) : (ok s).ksptr = s.ksptr := rfl
@[simp] theorem ok_keybuf (s : State) : (ok s).keybuf = s.keybuf := rfl
@[simp] theorem ok_keycnt (s : State) : (ok s).keycnt = s.keycnt := rfl
@[simp] theorem ok_noncebuf (s : State) : (ok s).noncebuf = s.noncebuf := rfl
@[simp] theorem ok_noncecnt (s : State) : (ok s).noncecnt = s.noncecnt := rfl
@[simp] theorem ok_sess (s : State) : (ok s).sess = s.sess := rfl
@[simp] theorem ok_msg (s : State) : (ok s).msg = s.msg := rfl
@[simp] theorem ok_ctrwrap (s : State) : (ok s).ctrwrap = s.ctrwrap := rfl
@[simp] theorem ok_errf (s : State) : (ok s).errf = s.errf := rfl
@[simp] theorem ok_result (s : State) : (ok s).result = 0 := rfl
@[simp] theorem ok_ovffail (s : State) : (ok s).ovffail = s.ovffail := rfl
@[simp] theorem ok_dout (s : State) : (ok s).dout = s.dout := rfl
@[simp] theorem ok_bus (s : State) : (ok s).bus = s.bus := rfl
@[simp] theorem ok_inputs (s : State) : (ok s).inputs = s.inputs := rfl
@[simp] theorem ok_resetDone (s : State) : (ok s).resetDone = s.resetDone := rfl
@[simp] theorem ok_xDraws (s : State) : (ok s).xDraws = s.xDraws := rfl

@[simp] theorem clearKeyStage_S (s : State) : (clearKeyStage s).S = s.S := rfl
@[simp] theorem clearKeyStage_X (s : State) : (clearKeyStage s).X = s.X := rfl
@[simp] theorem clearKeyStage_round (s : State) : (clearKeyStage s).round = s.round := rfl
@[simp] theorem clearKeyStage_ks (s : State) : (clearKeyStage s).ks = s.ks := rfl
@[simp] theorem clearKeyStage_ksptr (s : State) : (clearKeyStage s).ksptr = s.ksptr := rfl
@[simp] theorem clearKeyStage_keybuf (s : State) : (clearKeyStage s).keybuf = Vector.replicate 32 0 := rfl
@[simp] theorem clearKeyStage_keycnt (s : State) : (clearKeyStage s).keycnt = 0 := rfl
@[simp] theorem clearKeyStage_noncebuf (s : State) : (clearKeyStage s).noncebuf = s.noncebuf := rfl
@[simp] theorem clearKeyStage_noncecnt (s : State) : (clearKeyStage s).noncecnt = s.noncecnt := rfl
@[simp] theorem clearKeyStage_sess (s : State) : (clearKeyStage s).sess = s.sess := rfl
@[simp] theorem clearKeyStage_msg (s : State) : (clearKeyStage s).msg = s.msg := rfl
@[simp] theorem clearKeyStage_ctrwrap (s : State) : (clearKeyStage s).ctrwrap = s.ctrwrap := rfl
@[simp] theorem clearKeyStage_errf (s : State) : (clearKeyStage s).errf = s.errf := rfl
@[simp] theorem clearKeyStage_result (s : State) : (clearKeyStage s).result = s.result := rfl
@[simp] theorem clearKeyStage_ovffail (s : State) : (clearKeyStage s).ovffail = s.ovffail := rfl
@[simp] theorem clearKeyStage_dout (s : State) : (clearKeyStage s).dout = s.dout := rfl
@[simp] theorem clearKeyStage_bus (s : State) : (clearKeyStage s).bus = s.bus := rfl
@[simp] theorem clearKeyStage_inputs (s : State) : (clearKeyStage s).inputs = s.inputs := rfl
@[simp] theorem clearKeyStage_resetDone (s : State) : (clearKeyStage s).resetDone = s.resetDone := rfl
@[simp] theorem clearKeyStage_xDraws (s : State) : (clearKeyStage s).xDraws = s.xDraws := rfl

@[simp] theorem clearNonceStage_S (s : State) : (clearNonceStage s).S = s.S := rfl
@[simp] theorem clearNonceStage_X (s : State) : (clearNonceStage s).X = s.X := rfl
@[simp] theorem clearNonceStage_round (s : State) : (clearNonceStage s).round = s.round := rfl
@[simp] theorem clearNonceStage_ks (s : State) : (clearNonceStage s).ks = s.ks := rfl
@[simp] theorem clearNonceStage_ksptr (s : State) : (clearNonceStage s).ksptr = s.ksptr := rfl
@[simp] theorem clearNonceStage_keybuf (s : State) : (clearNonceStage s).keybuf = s.keybuf := rfl
@[simp] theorem clearNonceStage_keycnt (s : State) : (clearNonceStage s).keycnt = s.keycnt := rfl
@[simp] theorem clearNonceStage_noncebuf (s : State) : (clearNonceStage s).noncebuf = Vector.replicate 12 0 := rfl
@[simp] theorem clearNonceStage_noncecnt (s : State) : (clearNonceStage s).noncecnt = 0 := rfl
@[simp] theorem clearNonceStage_sess (s : State) : (clearNonceStage s).sess = s.sess := rfl
@[simp] theorem clearNonceStage_msg (s : State) : (clearNonceStage s).msg = s.msg := rfl
@[simp] theorem clearNonceStage_ctrwrap (s : State) : (clearNonceStage s).ctrwrap = s.ctrwrap := rfl
@[simp] theorem clearNonceStage_errf (s : State) : (clearNonceStage s).errf = s.errf := rfl
@[simp] theorem clearNonceStage_result (s : State) : (clearNonceStage s).result = s.result := rfl
@[simp] theorem clearNonceStage_ovffail (s : State) : (clearNonceStage s).ovffail = s.ovffail := rfl
@[simp] theorem clearNonceStage_dout (s : State) : (clearNonceStage s).dout = s.dout := rfl
@[simp] theorem clearNonceStage_bus (s : State) : (clearNonceStage s).bus = s.bus := rfl
@[simp] theorem clearNonceStage_inputs (s : State) : (clearNonceStage s).inputs = s.inputs := rfl
@[simp] theorem clearNonceStage_resetDone (s : State) : (clearNonceStage s).resetDone = s.resetDone := rfl
@[simp] theorem clearNonceStage_xDraws (s : State) : (clearNonceStage s).xDraws = s.xDraws := rfl

@[simp] theorem clearKeystream_S (s : State) : (clearKeystream s).S = s.S := rfl
@[simp] theorem clearKeystream_X (s : State) : (clearKeystream s).X = s.X := rfl
@[simp] theorem clearKeystream_round (s : State) : (clearKeystream s).round = s.round := rfl
@[simp] theorem clearKeystream_ks (s : State) : (clearKeystream s).ks = Vector.replicate 64 0 := rfl
@[simp] theorem clearKeystream_ksptr (s : State) : (clearKeystream s).ksptr = 64 := rfl
@[simp] theorem clearKeystream_keybuf (s : State) : (clearKeystream s).keybuf = s.keybuf := rfl
@[simp] theorem clearKeystream_keycnt (s : State) : (clearKeystream s).keycnt = s.keycnt := rfl
@[simp] theorem clearKeystream_noncebuf (s : State) : (clearKeystream s).noncebuf = s.noncebuf := rfl
@[simp] theorem clearKeystream_noncecnt (s : State) : (clearKeystream s).noncecnt = s.noncecnt := rfl
@[simp] theorem clearKeystream_sess (s : State) : (clearKeystream s).sess = s.sess := rfl
@[simp] theorem clearKeystream_msg (s : State) : (clearKeystream s).msg = s.msg := rfl
@[simp] theorem clearKeystream_ctrwrap (s : State) : (clearKeystream s).ctrwrap = s.ctrwrap := rfl
@[simp] theorem clearKeystream_errf (s : State) : (clearKeystream s).errf = s.errf := rfl
@[simp] theorem clearKeystream_result (s : State) : (clearKeystream s).result = s.result := rfl
@[simp] theorem clearKeystream_ovffail (s : State) : (clearKeystream s).ovffail = s.ovffail := rfl
@[simp] theorem clearKeystream_dout (s : State) : (clearKeystream s).dout = s.dout := rfl
@[simp] theorem clearKeystream_bus (s : State) : (clearKeystream s).bus = s.bus := rfl
@[simp] theorem clearKeystream_inputs (s : State) : (clearKeystream s).inputs = s.inputs := rfl
@[simp] theorem clearKeystream_resetDone (s : State) : (clearKeystream s).resetDone = s.resetDone := rfl
@[simp] theorem clearKeystream_xDraws (s : State) : (clearKeystream s).xDraws = s.xDraws := rfl

@[simp] theorem resetMsg_S (s : State) : (resetMsg s).S = s.S := rfl
@[simp] theorem resetMsg_X (s : State) : (resetMsg s).X = s.X := rfl
@[simp] theorem resetMsg_round (s : State) : (resetMsg s).round = s.round := rfl
@[simp] theorem resetMsg_ks (s : State) : (resetMsg s).ks = Vector.replicate 64 0 := rfl
@[simp] theorem resetMsg_ksptr (s : State) : (resetMsg s).ksptr = 64 := rfl
@[simp] theorem resetMsg_keybuf (s : State) : (resetMsg s).keybuf = s.keybuf := rfl
@[simp] theorem resetMsg_keycnt (s : State) : (resetMsg s).keycnt = s.keycnt := rfl
@[simp] theorem resetMsg_noncebuf (s : State) : (resetMsg s).noncebuf = s.noncebuf := rfl
@[simp] theorem resetMsg_noncecnt (s : State) : (resetMsg s).noncecnt = s.noncecnt := rfl
@[simp] theorem resetMsg_sess (s : State) : (resetMsg s).sess = s.sess := rfl
@[simp] theorem resetMsg_msg (s : State) : (resetMsg s).msg = false := rfl
@[simp] theorem resetMsg_ctrwrap (s : State) : (resetMsg s).ctrwrap = false := rfl
@[simp] theorem resetMsg_errf (s : State) : (resetMsg s).errf = s.errf := rfl
@[simp] theorem resetMsg_result (s : State) : (resetMsg s).result = s.result := rfl
@[simp] theorem resetMsg_ovffail (s : State) : (resetMsg s).ovffail = s.ovffail := rfl
@[simp] theorem resetMsg_dout (s : State) : (resetMsg s).dout = s.dout := rfl
@[simp] theorem resetMsg_bus (s : State) : (resetMsg s).bus = s.bus := rfl
@[simp] theorem resetMsg_inputs (s : State) : (resetMsg s).inputs = s.inputs := rfl
@[simp] theorem resetMsg_resetDone (s : State) : (resetMsg s).resetDone = s.resetDone := rfl
@[simp] theorem resetMsg_xDraws (s : State) : (resetMsg s).xDraws = s.xDraws := rfl

@[simp] theorem advanceCounter_S (s : State) : (advanceCounter s).S = s.S.set 12 (s.S[12] + 1) := rfl
@[simp] theorem advanceCounter_X (s : State) : (advanceCounter s).X = s.X := rfl
@[simp] theorem advanceCounter_round (s : State) : (advanceCounter s).round = s.round := rfl
@[simp] theorem advanceCounter_ks (s : State) : (advanceCounter s).ks = s.ks := rfl
@[simp] theorem advanceCounter_ksptr (s : State) : (advanceCounter s).ksptr = s.ksptr := rfl
@[simp] theorem advanceCounter_keybuf (s : State) : (advanceCounter s).keybuf = s.keybuf := rfl
@[simp] theorem advanceCounter_keycnt (s : State) : (advanceCounter s).keycnt = s.keycnt := rfl
@[simp] theorem advanceCounter_noncebuf (s : State) : (advanceCounter s).noncebuf = s.noncebuf := rfl
@[simp] theorem advanceCounter_noncecnt (s : State) : (advanceCounter s).noncecnt = s.noncecnt := rfl
@[simp] theorem advanceCounter_sess (s : State) : (advanceCounter s).sess = s.sess := rfl
@[simp] theorem advanceCounter_msg (s : State) : (advanceCounter s).msg = s.msg := rfl
@[simp] theorem advanceCounter_ctrwrap (s : State) : (advanceCounter s).ctrwrap = (s.ctrwrap || counterCarries s.S[12]) := rfl
@[simp] theorem advanceCounter_errf (s : State) : (advanceCounter s).errf = s.errf := rfl
@[simp] theorem advanceCounter_result (s : State) : (advanceCounter s).result = s.result := rfl
@[simp] theorem advanceCounter_ovffail (s : State) : (advanceCounter s).ovffail = s.ovffail := rfl
@[simp] theorem advanceCounter_dout (s : State) : (advanceCounter s).dout = s.dout := rfl
@[simp] theorem advanceCounter_bus (s : State) : (advanceCounter s).bus = s.bus := rfl
@[simp] theorem advanceCounter_inputs (s : State) : (advanceCounter s).inputs = s.inputs := rfl
@[simp] theorem advanceCounter_resetDone (s : State) : (advanceCounter s).resetDone = s.resetDone := rfl
@[simp] theorem advanceCounter_xDraws (s : State) : (advanceCounter s).xDraws = s.xDraws := rfl

@[simp] theorem genBlock_S (s : State) : (genBlock s).S = s.S.set 12 (s.S[12] + 1) := rfl
@[simp] theorem genBlock_X (s : State) : (genBlock s).X = Config.freeWorkingBuffer s.xDraws := rfl
@[simp] theorem genBlock_round (s : State) : (genBlock s).round = 0 := rfl
@[simp] theorem genBlock_ks (s : State) : (genBlock s).ks = keystreamBytes s.S := rfl
@[simp] theorem genBlock_ksptr (s : State) : (genBlock s).ksptr = 0 := rfl
@[simp] theorem genBlock_keybuf (s : State) : (genBlock s).keybuf = s.keybuf := rfl
@[simp] theorem genBlock_keycnt (s : State) : (genBlock s).keycnt = s.keycnt := rfl
@[simp] theorem genBlock_noncebuf (s : State) : (genBlock s).noncebuf = s.noncebuf := rfl
@[simp] theorem genBlock_noncecnt (s : State) : (genBlock s).noncecnt = s.noncecnt := rfl
@[simp] theorem genBlock_sess (s : State) : (genBlock s).sess = s.sess := rfl
@[simp] theorem genBlock_msg (s : State) : (genBlock s).msg = s.msg := rfl
@[simp] theorem genBlock_ctrwrap (s : State) : (genBlock s).ctrwrap = (s.ctrwrap || counterCarries s.S[12]) := rfl
@[simp] theorem genBlock_errf (s : State) : (genBlock s).errf = s.errf := rfl
@[simp] theorem genBlock_result (s : State) : (genBlock s).result = s.result := rfl
@[simp] theorem genBlock_ovffail (s : State) : (genBlock s).ovffail = s.ovffail := rfl
@[simp] theorem genBlock_dout (s : State) : (genBlock s).dout = s.dout := rfl
@[simp] theorem genBlock_bus (s : State) : (genBlock s).bus = s.bus := rfl
@[simp] theorem genBlock_inputs (s : State) : (genBlock s).inputs = s.inputs := rfl
@[simp] theorem genBlock_resetDone (s : State) : (genBlock s).resetDone = s.resetDone := rfl
@[simp] theorem genBlock_xDraws (s : State) : (genBlock s).xDraws = s.xDraws + 1 := rfl

@[simp] theorem pipelineLoad_S (s : State) : (pipelineLoad s).S = s.S := rfl
@[simp] theorem pipelineLoad_X (s : State) : (pipelineLoad s).X = s.S := rfl
@[simp] theorem pipelineLoad_round (s : State) : (pipelineLoad s).round = 0 := rfl
@[simp] theorem pipelineLoad_ks (s : State) : (pipelineLoad s).ks = s.ks := rfl
@[simp] theorem pipelineLoad_ksptr (s : State) : (pipelineLoad s).ksptr = s.ksptr := rfl
@[simp] theorem pipelineLoad_keybuf (s : State) : (pipelineLoad s).keybuf = s.keybuf := rfl
@[simp] theorem pipelineLoad_keycnt (s : State) : (pipelineLoad s).keycnt = s.keycnt := rfl
@[simp] theorem pipelineLoad_noncebuf (s : State) : (pipelineLoad s).noncebuf = s.noncebuf := rfl
@[simp] theorem pipelineLoad_noncecnt (s : State) : (pipelineLoad s).noncecnt = s.noncecnt := rfl
@[simp] theorem pipelineLoad_sess (s : State) : (pipelineLoad s).sess = s.sess := rfl
@[simp] theorem pipelineLoad_msg (s : State) : (pipelineLoad s).msg = s.msg := rfl
@[simp] theorem pipelineLoad_ctrwrap (s : State) : (pipelineLoad s).ctrwrap = s.ctrwrap := rfl
@[simp] theorem pipelineLoad_errf (s : State) : (pipelineLoad s).errf = s.errf := rfl
@[simp] theorem pipelineLoad_result (s : State) : (pipelineLoad s).result = s.result := rfl
@[simp] theorem pipelineLoad_ovffail (s : State) : (pipelineLoad s).ovffail = s.ovffail := rfl
@[simp] theorem pipelineLoad_dout (s : State) : (pipelineLoad s).dout = s.dout := rfl
@[simp] theorem pipelineLoad_bus (s : State) : (pipelineLoad s).bus = s.bus := rfl
@[simp] theorem pipelineLoad_inputs (s : State) : (pipelineLoad s).inputs = s.inputs := rfl
@[simp] theorem pipelineLoad_resetDone (s : State) : (pipelineLoad s).resetDone = s.resetDone := rfl
@[simp] theorem pipelineLoad_xDraws (s : State) : (pipelineLoad s).xDraws = s.xDraws := rfl

@[simp] theorem pipelineFinish_S (s : State) : (pipelineFinish s).S = s.S.set 12 (s.S[12] + 1) := rfl
@[simp] theorem pipelineFinish_X (s : State) : (pipelineFinish s).X = s.X := rfl
@[simp] theorem pipelineFinish_round (s : State) : (pipelineFinish s).round = 0 := rfl
@[simp] theorem pipelineFinish_ks (s : State) : (pipelineFinish s).ks = serialize (addWords s.X s.S) := rfl
@[simp] theorem pipelineFinish_ksptr (s : State) : (pipelineFinish s).ksptr = 0 := rfl
@[simp] theorem pipelineFinish_keybuf (s : State) : (pipelineFinish s).keybuf = s.keybuf := rfl
@[simp] theorem pipelineFinish_keycnt (s : State) : (pipelineFinish s).keycnt = s.keycnt := rfl
@[simp] theorem pipelineFinish_noncebuf (s : State) : (pipelineFinish s).noncebuf = s.noncebuf := rfl
@[simp] theorem pipelineFinish_noncecnt (s : State) : (pipelineFinish s).noncecnt = s.noncecnt := rfl
@[simp] theorem pipelineFinish_sess (s : State) : (pipelineFinish s).sess = s.sess := rfl
@[simp] theorem pipelineFinish_msg (s : State) : (pipelineFinish s).msg = s.msg := rfl
@[simp] theorem pipelineFinish_ctrwrap (s : State) : (pipelineFinish s).ctrwrap = (s.ctrwrap || counterCarries s.S[12]) := rfl
@[simp] theorem pipelineFinish_errf (s : State) : (pipelineFinish s).errf = s.errf := rfl
@[simp] theorem pipelineFinish_result (s : State) : (pipelineFinish s).result = s.result := rfl
@[simp] theorem pipelineFinish_ovffail (s : State) : (pipelineFinish s).ovffail = s.ovffail := rfl
@[simp] theorem pipelineFinish_dout (s : State) : (pipelineFinish s).dout = s.dout := rfl
@[simp] theorem pipelineFinish_bus (s : State) : (pipelineFinish s).bus = s.bus := rfl
@[simp] theorem pipelineFinish_inputs (s : State) : (pipelineFinish s).inputs = s.inputs := rfl
@[simp] theorem pipelineFinish_resetDone (s : State) : (pipelineFinish s).resetDone = s.resetDone := rfl
@[simp] theorem pipelineFinish_xDraws (s : State) : (pipelineFinish s).xDraws = s.xDraws := rfl

@[simp] theorem idle_S (s : State) : (idle s).S = s.S := rfl
@[simp] theorem idle_X (s : State) : (idle s).X = s.X := rfl
@[simp] theorem idle_round (s : State) : (idle s).round = s.round := rfl
@[simp] theorem idle_ks (s : State) : (idle s).ks = s.ks := rfl
@[simp] theorem idle_ksptr (s : State) : (idle s).ksptr = s.ksptr := rfl
@[simp] theorem idle_keybuf (s : State) : (idle s).keybuf = s.keybuf := rfl
@[simp] theorem idle_keycnt (s : State) : (idle s).keycnt = s.keycnt := rfl
@[simp] theorem idle_noncebuf (s : State) : (idle s).noncebuf = s.noncebuf := rfl
@[simp] theorem idle_noncecnt (s : State) : (idle s).noncecnt = s.noncecnt := rfl
@[simp] theorem idle_sess (s : State) : (idle s).sess = s.sess := rfl
@[simp] theorem idle_msg (s : State) : (idle s).msg = s.msg := rfl
@[simp] theorem idle_ctrwrap (s : State) : (idle s).ctrwrap = s.ctrwrap := rfl
@[simp] theorem idle_errf (s : State) : (idle s).errf = s.errf := rfl
@[simp] theorem idle_result (s : State) : (idle s).result = s.result := rfl
@[simp] theorem idle_ovffail (s : State) : (idle s).ovffail = s.ovffail := rfl
@[simp] theorem idle_dout (s : State) : (idle s).dout = s.dout := rfl
@[simp] theorem idle_bus (s : State) : (idle s).bus = .idle := rfl
@[simp] theorem idle_inputs (s : State) : (idle s).inputs = s.inputs := rfl
@[simp] theorem idle_resetDone (s : State) : (idle s).resetDone = s.resetDone := rfl
@[simp] theorem idle_xDraws (s : State) : (idle s).xDraws = s.xDraws := rfl

@[simp] theorem takeInput_S (s : State) : (takeInput s).S = s.S := rfl
@[simp] theorem takeInput_X (s : State) : (takeInput s).X = s.X := rfl
@[simp] theorem takeInput_round (s : State) : (takeInput s).round = s.round := rfl
@[simp] theorem takeInput_ks (s : State) : (takeInput s).ks = s.ks := rfl
@[simp] theorem takeInput_ksptr (s : State) : (takeInput s).ksptr = s.ksptr := rfl
@[simp] theorem takeInput_keybuf (s : State) : (takeInput s).keybuf = s.keybuf := rfl
@[simp] theorem takeInput_keycnt (s : State) : (takeInput s).keycnt = s.keycnt := rfl
@[simp] theorem takeInput_noncebuf (s : State) : (takeInput s).noncebuf = s.noncebuf := rfl
@[simp] theorem takeInput_noncecnt (s : State) : (takeInput s).noncecnt = s.noncecnt := rfl
@[simp] theorem takeInput_sess (s : State) : (takeInput s).sess = s.sess := rfl
@[simp] theorem takeInput_msg (s : State) : (takeInput s).msg = s.msg := rfl
@[simp] theorem takeInput_ctrwrap (s : State) : (takeInput s).ctrwrap = s.ctrwrap := rfl
@[simp] theorem takeInput_errf (s : State) : (takeInput s).errf = s.errf := rfl
@[simp] theorem takeInput_result (s : State) : (takeInput s).result = s.result := rfl
@[simp] theorem takeInput_ovffail (s : State) : (takeInput s).ovffail = s.ovffail := rfl
@[simp] theorem takeInput_dout (s : State) : (takeInput s).dout = s.dout := rfl
@[simp] theorem takeInput_bus (s : State) : (takeInput s).bus = s.bus := rfl
@[simp] theorem takeInput_inputs (s : State) : (takeInput s).inputs = s.inputs.tail := rfl
@[simp] theorem takeInput_resetDone (s : State) : (takeInput s).resetDone = s.resetDone := rfl
@[simp] theorem takeInput_xDraws (s : State) : (takeInput s).xDraws = s.xDraws := rfl

@[simp] theorem present_S (x : HostInput) (s : State) : (present x s).S = s.S := rfl
@[simp] theorem present_X (x : HostInput) (s : State) : (present x s).X = s.X := rfl
@[simp] theorem present_round (x : HostInput) (s : State) : (present x s).round = s.round := rfl
@[simp] theorem present_ks (x : HostInput) (s : State) : (present x s).ks = s.ks := rfl
@[simp] theorem present_ksptr (x : HostInput) (s : State) : (present x s).ksptr = s.ksptr := rfl
@[simp] theorem present_keybuf (x : HostInput) (s : State) : (present x s).keybuf = s.keybuf := rfl
@[simp] theorem present_keycnt (x : HostInput) (s : State) : (present x s).keycnt = s.keycnt := rfl
@[simp] theorem present_noncebuf (x : HostInput) (s : State) : (present x s).noncebuf = s.noncebuf := rfl
@[simp] theorem present_noncecnt (x : HostInput) (s : State) : (present x s).noncecnt = s.noncecnt := rfl
@[simp] theorem present_sess (x : HostInput) (s : State) : (present x s).sess = s.sess := rfl
@[simp] theorem present_msg (x : HostInput) (s : State) : (present x s).msg = s.msg := rfl
@[simp] theorem present_ctrwrap (x : HostInput) (s : State) : (present x s).ctrwrap = s.ctrwrap := rfl
@[simp] theorem present_errf (x : HostInput) (s : State) : (present x s).errf = s.errf := rfl
@[simp] theorem present_result (x : HostInput) (s : State) : (present x s).result = s.result := rfl
@[simp] theorem present_ovffail (x : HostInput) (s : State) : (present x s).ovffail = s.ovffail := rfl
@[simp] theorem present_dout (x : HostInput) (s : State) : (present x s).dout = s.dout := rfl
@[simp] theorem present_bus (x : HostInput) (s : State) : (present x s).bus = s.bus := rfl
@[simp] theorem present_inputs (x : HostInput) (s : State) : (present x s).inputs = x :: s.inputs := rfl
@[simp] theorem present_resetDone (x : HostInput) (s : State) : (present x s).resetDone = s.resetDone := rfl
@[simp] theorem present_xDraws (x : HostInput) (s : State) : (present x s).xDraws = s.xDraws := rfl

end Sys2Proof.Laws
end

