-- ==== Sys2Proof/Laws/Ops.lean ====
section
/-! SUPPORT. What each shared operation can do, said once: the ends of a transaction, BuildState, the keystream bytes
and `XorByte`. -/

namespace Sys2Proof.Laws
open Sys2Proof.Machine

/-! ### The ends of a transaction -/

theorem finishWrite_eq_next (s t : State) : finishWrite s = .next t ↔ t = { s with bus := .writeDone } := by
  simp [finishWrite, eq_comm]

theorem finishRead_eq_next (v : Word) (s t : State) :
    finishRead v s = .next t ↔ t = { s with bus := .readDone v } := by
  simp [finishRead, eq_comm]

theorem readAccess_eq_next (r : Reg) (s t : State) :
    readAccess r s = .next t ↔ t = { s with bus := .readDone (readRegister r s) } :=
  finishRead_eq_next _ _ _

theorem ignoredWrite_eq_next (w : Word) (s t : State) :
    ignoredWrite w s = .next t ↔ t = { s with bus := .writeDone } :=
  finishWrite_eq_next _ _

/-- What a register reads as does not depend on the port. -/
@[simp] theorem readRegister_bus (r : Reg) (s : State) (b : BusOut) :
    readRegister r { s with bus := b } = readRegister r s := by cases r <;> rfl

/-! ### The counts -/

theorem countUp_toNat (c : BitVec 6) : (countUp c).toNat = min (c.toNat + 1) 63 := by
  revert c
  decide

/-! ### BuildState -/

/-- The words of a rebuilt state: its own nonce bytes give back its nonce words (R106, R12). -/
theorem buildState_nonceBytesOf (k : Vector Byte 32) (S : Vector Word 16) :
    buildState k (nonceBytesOf S) =
      (#v[0x61707865, 0x3320646E, 0x79622D32, 0x6B206574, keyWord k 0, keyWord k 1, keyWord k 2, keyWord k 3,
        keyWord k 4, keyWord k 5, keyWord k 6, keyWord k 7, 0, S[13], S[14], S[15]] : Vector Word 16) := by
  simp [buildState, nonceWord, nonceBytesOf]

/-- Its own key bytes give back its key words (R107, R12). -/
theorem buildState_keyBytesOf (n : Vector Byte 12) (S : Vector Word 16) :
    buildState (keyBytesOf S) n =
      (#v[0x61707865, 0x3320646E, 0x79622D32, 0x6B206574, S[4], S[5], S[6], S[7], S[8], S[9], S[10], S[11], 0,
        nonceWord n 0, nonceWord n 1, nonceWord n 2] : Vector Word 16) := by
  simp [buildState, keyWord, keyBytesOf]

@[simp] theorem buildState_counter (k : Vector Byte 32) (n : Vector Byte 12) : (buildState k n)[12] = 0 := rfl

/-! ### The block engine -/

/-- One step of a quarter-round, slot by slot. -/
theorem addXorRotate_get (a b d : Fin 16) (n : Nat) (X : Vector Word 16) (i : Fin 16) (h : d ≠ a) :
    (addXorRotate a b d n X)[i] =
      if i = d then rotl (X[d] ^^^ (X[a] + X[b])) n else if i = a then X[a] + X[b] else X[i] := by
  have hda : a.val ≠ d.val := fun e => h (Fin.ext e.symm)
  by_cases hid : i = d
  · subst hid
    simp [addXorRotate, Vector.getElem_set_ne _ _ hda]
  · have hid' : d.val ≠ i.val := fun e => hid (Fin.ext e.symm)
    by_cases hia : i = a
    · subst hia
      simp [addXorRotate, hid, Vector.getElem_set_ne _ _ hid']
    · have hia' : a.val ≠ i.val := fun e => hia (Fin.ext e.symm)
      simp [addXorRotate, hid, hia, Vector.getElem_set_ne _ _ hid', Vector.getElem_set_ne _ _ hia']

@[simp] theorem addWords_get (X S : Vector Word 16) (i : Nat) (h : i < 16) : (addWords X S)[i] = X[i] + S[i] := by
  simp [addWords]

@[simp] theorem serialize_get (out : Vector Word 16) (i : Nat) (h : i < 64) :
    (serialize out)[i] = byteOf out[i / 4] (i % 4) := by
  simp [serialize]

theorem keystreamBytes_get (S : Vector Word 16) (i : Nat) (h : i < 64) :
    (keystreamBytes S)[i] = byteOf ((permute S)[i / 4] + S[i / 4]) (i % 4) := by
  simp [keystreamBytes, block]

theorem counterCarries_iff (c : Word) : counterCarries c = true ↔ c + 1 = 0 := by
  simp only [counterCarries, decide_eq_true_eq]
  constructor
  · rintro rfl
    rfl
  · intro h
    exact eq_neg_of_add_eq_zero_left h

/-! ### The byte step -/

/-- With unused keystream left, `XorByte` uses the next byte and generates no block (R163). -/
theorem xorByte_of_lt (b : Byte) (s : State) (h : s.ksptr.val < 64) :
    xorByte b s = (b ^^^ s.ks[s.ksptr.val], { s with ksptr := ⟨s.ksptr.val + 1, by omega⟩ }) := by
  simp [xorByte, h, combine]

/-- With none left, it uses the first byte of a new block (R163). -/
theorem xorByte_of_full (b : Byte) (s : State) (h : s.ksptr = 64) :
    xorByte b s = (b ^^^ (keystreamBytes s.S)[0], { genBlock s with ksptr := 1 }) := by
  have : ¬ s.ksptr.val < 64 := by simp [h]
  simp [xorByte, this, combine]

/-- Four bytes with no block request: each uses the next keystream byte (R165). -/
theorem xorWord_of_le (d : Vector Byte 4) (s : State) (h : s.ksptr.val ≤ 60) :
    xorWord d s =
      (#v[d[0] ^^^ s.ks[s.ksptr.val], d[1] ^^^ s.ks[s.ksptr.val + 1], d[2] ^^^ s.ks[s.ksptr.val + 2],
          d[3] ^^^ s.ks[s.ksptr.val + 3]],
        { s with ksptr := ⟨s.ksptr.val + 4, by omega⟩ }) := by
  have h0 : s.ksptr.val < 64 := by omega
  have h1 : s.ksptr.val + 1 < 64 := by omega
  have h2 : s.ksptr.val + 2 < 64 := by omega
  have h3 : s.ksptr.val + 3 < 64 := by omega
  simp [xorWord, xorByte_of_lt, h0, h1, h2, h3]

/-- Byte `KSPTR + j` of the current block followed by the next one (R165). -/
def nextKeystream (s : State) (j : Nat) (h : s.ksptr.val + j < 128 := by omega) : Byte :=
  (s.ks ++ keystreamBytes s.S)[s.ksptr.val + j]

theorem nextKeystream_of_lt (s : State) (j : Nat) (h : s.ksptr.val + j < 64) :
    nextKeystream s j = s.ks[s.ksptr.val + j] :=
  Vector.getElem_append_left h

theorem nextKeystream_of_ge (s : State) (j : Nat) (h : 64 ≤ s.ksptr.val + j) (h' : s.ksptr.val + j < 128) :
    nextKeystream s j = (keystreamBytes s.S)[s.ksptr.val + j - 64] :=
  Vector.getElem_append_right h' h

/-- Four bytes among which a block request falls: one block is generated, and the bytes are those of the current block
followed by it (R165). -/
theorem xorWord_of_gt (d : Vector Byte 4) (s : State) (h : 60 < s.ksptr.val) :
    xorWord d s =
      (#v[d[0] ^^^ nextKeystream s 0, d[1] ^^^ nextKeystream s 1, d[2] ^^^ nextKeystream s 2,
          d[3] ^^^ nextKeystream s 3],
        { genBlock s with ksptr := ⟨s.ksptr.val - 60, by omega⟩ }) := by
  have hp : s.ksptr = 61 ∨ s.ksptr = 62 ∨ s.ksptr = 63 ∨ s.ksptr = 64 := by
    have := s.ksptr.isLt
    simp only [Fin.ext_iff]
    omega
  obtain hp | hp | hp | hp := hp
  · rw [nextKeystream_of_lt s 0 (by simp [hp]), nextKeystream_of_lt s 1 (by simp [hp]),
      nextKeystream_of_lt s 2 (by simp [hp]), nextKeystream_of_ge s 3 (by simp [hp]) (by simp [hp])]
    simp [xorWord, xorByte, combine, hp]
  · rw [nextKeystream_of_lt s 0 (by simp [hp]), nextKeystream_of_lt s 1 (by simp [hp]),
      nextKeystream_of_ge s 2 (by simp [hp]) (by simp [hp]), nextKeystream_of_ge s 3 (by simp [hp]) (by simp [hp])]
    simp [xorWord, xorByte, combine, hp]
  · rw [nextKeystream_of_lt s 0 (by simp [hp]), nextKeystream_of_ge s 1 (by simp [hp]) (by simp [hp]),
      nextKeystream_of_ge s 2 (by simp [hp]) (by simp [hp]), nextKeystream_of_ge s 3 (by simp [hp]) (by simp [hp])]
    simp [xorWord, xorByte, combine, hp]
  · rw [nextKeystream_of_ge s 0 (by simp [hp]) (by simp [hp]), nextKeystream_of_ge s 1 (by simp [hp]) (by simp [hp]),
      nextKeystream_of_ge s 2 (by simp [hp]) (by simp [hp]), nextKeystream_of_ge s 3 (by simp [hp]) (by simp [hp])]
    simp [xorWord, xorByte, combine, hp]

end Sys2Proof.Laws
end

