-- ==== Sys2Proof/Laws/Exec.lean ====
section
/-! SUPPORT. The answer of each meaning that has more than one outcome, one lemma per outcome, and the dispatch of a CMD
write. -/

namespace Sys2Proof.Laws
open Sys2Proof.Machine

/-! ### Commit commands and START -/

theorem execSession_of_wrong_key (s : State) (hk : s.keycnt ≠ 32) :
    execSession s = finishWrite (raise .invalidKeyLength (clearNonceStage (clearKeyStage s))) := by
  simp only [execSession, hk, ne_eq, not_false_eq_true, if_true]

theorem execSession_of_wrong_nonce (s : State) (hk : s.keycnt = 32) (hn : s.noncecnt ≠ 12) :
    execSession s = finishWrite (raise .invalidNonceLength (clearNonceStage (clearKeyStage s))) := by
  simp only [execSession, hk, hn, ne_eq, not_true_eq_false, not_false_eq_true, if_true, if_false]

theorem execSession_of_right_lengths (s : State) (hk : s.keycnt = 32) (hn : s.noncecnt = 12) :
    execSession s =
      finishWrite (ok (resetMsg
        { clearNonceStage (clearKeyStage s) with S := buildState s.keybuf s.noncebuf, sess := true })) := by
  simp [execSession, hk, hn]

theorem execRekey_of_no_session (s : State) (h : s.sess = false) :
    execRekey s = finishWrite (raise .noSession (clearKeyStage s)) := by
  simp [execRekey, h]

theorem execRekey_of_wrong_key (s : State) (h : s.sess = true) (hk : s.keycnt ≠ 32) :
    execRekey s = finishWrite (raise .invalidKeyLength (clearKeyStage s)) := by
  simp only [execRekey, h, hk, ne_eq, not_false_eq_true, if_true, if_false, Bool.true_eq_false]

theorem execRekey_of_right_length (s : State) (h : s.sess = true) (hk : s.keycnt = 32) :
    execRekey s =
      finishWrite (ok (resetMsg { clearKeyStage s with S := buildState s.keybuf (nonceBytesOf s.S) })) := by
  simp [execRekey, h, hk]

theorem execRenonce_of_no_session (s : State) (h : s.sess = false) :
    execRenonce s = finishWrite (raise .noSession (clearNonceStage s)) := by
  simp [execRenonce, h]

theorem execRenonce_of_wrong_nonce (s : State) (h : s.sess = true) (hn : s.noncecnt ≠ 12) :
    execRenonce s = finishWrite (raise .invalidNonceLength (clearNonceStage s)) := by
  simp only [execRenonce, h, hn, ne_eq, not_false_eq_true, if_true, if_false, Bool.true_eq_false]

theorem execRenonce_of_right_length (s : State) (h : s.sess = true) (hn : s.noncecnt = 12) :
    execRenonce s =
      finishWrite (ok (resetMsg { clearNonceStage s with S := buildState (keyBytesOf s.S) s.noncebuf })) := by
  simp [execRenonce, h, hn]

theorem execStart_of_no_session (s : State) (h : s.sess = false) :
    execStart s = finishWrite (raise .noSession s) := by
  simp [execStart, h]

theorem execStart_of_session (s : State) (h : s.sess = true) :
    execStart s =
      finishWrite (ok { clearKeystream { s with S := s.S.set 12 0 } with ctrwrap := false, msg := true }) := by
  simp [execStart, h]

/-! ### Data writes -/

theorem execWrDataB_of_no_message (w : Word) (s : State) (h : s.msg = false) :
    execWrDataB w s = finishWrite (raise .noMessage s) := by
  simp [execWrDataB, h]

theorem execWrDataB_of_overflow (w : Word) (s : State) (h : s.msg = true) (hp : s.ksptr = 64)
    (ho : overflowRefused s = true) : execWrDataB w s = finishWrite (raise .overflowError s) := by
  simp [execWrDataB, h, hp, ho, byteRequestsBlock]

/-- The byte is combined: unused keystream is left, or a new block may be generated. -/
theorem execWrDataB_of_accepted (w : Word) (s : State) (h : s.msg = true)
    (ho : s.ksptr.val < 64 ∨ overflowRefused s = false) :
    execWrDataB w s =
      finishWrite (ok { (xorByte (byteOperand w) s).2 with dout := zext32 (xorByte (byteOperand w) s).1 }) := by
  have hc : (byteRequestsBlock s && overflowRefused s) = false := by
    rcases ho with hp | ho
    · simp [byteRequestsBlock, Fin.ext_iff, Nat.ne_of_lt hp]
    · simp [ho]
  simp [execWrDataB, h, hc]

theorem execWrDataW_of_no_message (w : Word) (s : State) (h : s.msg = false) :
    execWrDataW w s = finishWrite (raise .noMessage s) := by
  simp [execWrDataW, h]

theorem execWrDataW_of_overflow (w : Word) (s : State) (h : s.msg = true) (hp : 60 < s.ksptr.val)
    (ho : overflowRefused s = true) : execWrDataW w s = finishWrite (raise .overflowError s) := by
  simp [execWrDataW, h, hp, ho, wordRequestsBlock]

/-- The word is combined: no block request falls within it, or a new block may be generated. -/
theorem execWrDataW_of_accepted (w : Word) (s : State) (h : s.msg = true)
    (ho : s.ksptr.val ≤ 60 ∨ overflowRefused s = false) :
    execWrDataW w s =
      finishWrite (ok
        { (xorWord (wordOperand w) s).2 with
          dout := le32 (xorWord (wordOperand w) s).1[0] (xorWord (wordOperand w) s).1[1]
            (xorWord (wordOperand w) s).1[2] (xorWord (wordOperand w) s).1[3] }) := by
  have hc : (wordRequestsBlock s && overflowRefused s) = false := by
    rcases ho with hp | ho
    · simp [wordRequestsBlock, Nat.not_lt.mpr hp]
    · simp [ho]
  simp [execWrDataW, h, hc]

/-! ### The dispatch of a CMD write (R72) -/

theorem execWrCmd_of_command (k : Command) (c : Word) (s : State) (h : decodeCommand c = some k) :
    execWrCmd c s = exec (Instr.ofCommand k) s := by
  simp only [execWrCmd, h]
  cases k <;> rfl

theorem execWrCmd_of_none (c : Word) (s : State) (h : decodeCommand c = none) :
    execWrCmd c s = finishWrite (raise .illegalCommand s) := by
  simp only [execWrCmd, h]
  rfl

/-- A CMD write is the CMD row of its word. -/
theorem exec_wrCmd (c : Word) (s : State) : exec (.wrCmd c) s = exec (decodeCommandWord c) s := by
  show execWrCmd c s = _
  cases h : decodeCommand c with
  | none =>
    rw [execWrCmd_of_none c s h, decodeCommandWord_illegal h]
    rfl
  | some k => rw [execWrCmd_of_command k c s h, decodeCommandWord, h]

/-! ### All that a data write can do -/

/-- A DATA_B write answers one of four next states (R164). -/
theorem exec_wrDataB_cases (w : Word) (s : State) :
    (s.msg = false ∧ exec (.wrDataB w) s = .next { raise .noMessage s with bus := .writeDone }) ∨
    (s.msg = true ∧ s.ksptr = 64 ∧ overflowRefused s = true ∧
      exec (.wrDataB w) s = .next { raise .overflowError s with bus := .writeDone }) ∨
    (s.msg = true ∧ ∃ h : s.ksptr.val < 64,
      exec (.wrDataB w) s =
        .next { s with ksptr := ⟨s.ksptr.val + 1, by omega⟩
                       dout := zext32 (byteOperand w ^^^ s.ks[s.ksptr.val]), result := 0, bus := .writeDone }) ∨
    (s.msg = true ∧ s.ksptr = 64 ∧ overflowRefused s = false ∧
      exec (.wrDataB w) s =
        .next { genBlock s with ksptr := 1, dout := zext32 (byteOperand w ^^^ (keystreamBytes s.S)[0]), result := 0
                                bus := .writeDone }) := by
  cases hm : s.msg with
  | false => exact .inl ⟨rfl, execWrDataB_of_no_message w s hm⟩
  | true =>
    right
    by_cases hk : s.ksptr.val < 64
    · right; left
      refine ⟨rfl, hk, ?_⟩
      show execWrDataB w s = _
      rw [execWrDataB_of_accepted w s hm (.inl hk), xorByte_of_lt _ _ hk]
      simp [finishWrite, ok, hm]
    · have hk : s.ksptr = 64 := by
        ext
        show s.ksptr.val = 64
        omega
      cases ho : overflowRefused s with
      | true => exact .inl ⟨rfl, hk, rfl, execWrDataB_of_overflow w s hm hk ho⟩
      | false =>
        right; right
        refine ⟨rfl, hk, rfl, ?_⟩
        show execWrDataB w s = _
        rw [execWrDataB_of_accepted w s hm (.inr ho), xorByte_of_full _ _ hk]
        simp [finishWrite, ok, hm, genBlock, freeX, advanceCounter]

/-- The output word of a DATA_W write, from its four keystream bytes. -/
def xorOutput (w : Word) (k0 k1 k2 k3 : Byte) : Word :=
  le32 (byteOf w 0 ^^^ k0) (byteOf w 1 ^^^ k1) (byteOf w 2 ^^^ k2) (byteOf w 3 ^^^ k3)

/-- A DATA_W write answers one of four next states (R165). -/
theorem exec_wrDataW_cases (w : Word) (s : State) :
    (s.msg = false ∧ exec (.wrDataW w) s = .next { raise .noMessage s with bus := .writeDone }) ∨
    (s.msg = true ∧ 60 < s.ksptr.val ∧ overflowRefused s = true ∧
      exec (.wrDataW w) s = .next { raise .overflowError s with bus := .writeDone }) ∨
    (s.msg = true ∧ ∃ h : s.ksptr.val ≤ 60,
      exec (.wrDataW w) s =
        .next { s with ksptr := ⟨s.ksptr.val + 4, by omega⟩
                       dout := xorOutput w s.ks[s.ksptr.val] s.ks[s.ksptr.val + 1] s.ks[s.ksptr.val + 2]
                         s.ks[s.ksptr.val + 3]
                       result := 0, bus := .writeDone }) ∨
    (s.msg = true ∧ overflowRefused s = false ∧ ∃ h : 60 < s.ksptr.val,
      exec (.wrDataW w) s =
        .next { genBlock s with ksptr := ⟨s.ksptr.val - 60, by omega⟩
                                dout := xorOutput w (nextKeystream s 0) (nextKeystream s 1) (nextKeystream s 2)
                                  (nextKeystream s 3)
                                result := 0, bus := .writeDone }) := by
  cases hm : s.msg with
  | false => exact .inl ⟨rfl, execWrDataW_of_no_message w s hm⟩
  | true =>
    right
    by_cases hk : s.ksptr.val ≤ 60
    · right; left
      refine ⟨rfl, hk, ?_⟩
      show execWrDataW w s = _
      rw [execWrDataW_of_accepted w s hm (.inl hk), xorWord_of_le _ _ hk]
      simp [wordOperand, bytesLe, xorOutput, finishWrite, ok, hm]
    · have hk : 60 < s.ksptr.val := by omega
      cases ho : overflowRefused s with
      | true => exact .inl ⟨rfl, hk, rfl, execWrDataW_of_overflow w s hm hk ho⟩
      | false =>
        right; right
        refine ⟨rfl, rfl, hk, ?_⟩
        show execWrDataW w s = _
        rw [execWrDataW_of_accepted w s hm (.inr ho), xorWord_of_gt _ _ hk]
        simp [wordOperand, bytesLe, xorOutput, finishWrite, ok, hm]

/-! ### All that a commit command or START can do -/

/-- SESSION answers one of three next states (R105). -/
theorem exec_session_cases (s : State) :
    (s.keycnt ≠ 32 ∧
      exec .session s =
        .next { raise .invalidKeyLength (clearNonceStage (clearKeyStage s)) with bus := .writeDone }) ∨
    (s.keycnt = 32 ∧ s.noncecnt ≠ 12 ∧
      exec .session s =
        .next { raise .invalidNonceLength (clearNonceStage (clearKeyStage s)) with bus := .writeDone }) ∨
    (s.keycnt = 32 ∧ s.noncecnt = 12 ∧
      exec .session s =
        .next { ok (resetMsg { clearNonceStage (clearKeyStage s) with
                                 S := buildState s.keybuf s.noncebuf, sess := true }) with bus := .writeDone }) := by
  by_cases hk : s.keycnt = 32
  · by_cases hn : s.noncecnt = 12
    · exact .inr (.inr ⟨hk, hn, execSession_of_right_lengths s hk hn⟩)
    · exact .inr (.inl ⟨hk, hn, execSession_of_wrong_nonce s hk hn⟩)
  · exact .inl ⟨hk, execSession_of_wrong_key s hk⟩

/-- REKEY answers one of three next states (R106). -/
theorem exec_rekey_cases (s : State) :
    (s.sess = false ∧
      exec .rekey s = .next { raise .noSession (clearKeyStage s) with bus := .writeDone }) ∨
    (s.sess = true ∧ s.keycnt ≠ 32 ∧
      exec .rekey s = .next { raise .invalidKeyLength (clearKeyStage s) with bus := .writeDone }) ∨
    (s.sess = true ∧ s.keycnt = 32 ∧
      exec .rekey s =
        .next { ok (resetMsg { clearKeyStage s with S := buildState s.keybuf (nonceBytesOf s.S) }) with
                  bus := .writeDone }) := by
  rcases Bool.eq_false_or_eq_true s.sess with hs | hs
  · by_cases hk : s.keycnt = 32
    · exact .inr (.inr ⟨hs, hk, execRekey_of_right_length s hs hk⟩)
    · exact .inr (.inl ⟨hs, hk, execRekey_of_wrong_key s hs hk⟩)
  · exact .inl ⟨hs, execRekey_of_no_session s hs⟩

/-- RENONCE answers one of three next states (R107). -/
theorem exec_renonce_cases (s : State) :
    (s.sess = false ∧
      exec .renonce s = .next { raise .noSession (clearNonceStage s) with bus := .writeDone }) ∨
    (s.sess = true ∧ s.noncecnt ≠ 12 ∧
      exec .renonce s = .next { raise .invalidNonceLength (clearNonceStage s) with bus := .writeDone }) ∨
    (s.sess = true ∧ s.noncecnt = 12 ∧
      exec .renonce s =
        .next { ok (resetMsg { clearNonceStage s with S := buildState (keyBytesOf s.S) s.noncebuf }) with
                  bus := .writeDone }) := by
  rcases Bool.eq_false_or_eq_true s.sess with hs | hs
  · by_cases hn : s.noncecnt = 12
    · exact .inr (.inr ⟨hs, hn, execRenonce_of_right_length s hs hn⟩)
    · exact .inr (.inl ⟨hs, hn, execRenonce_of_wrong_nonce s hs hn⟩)
  · exact .inl ⟨hs, execRenonce_of_no_session s hs⟩

/-- START answers one of two next states (R161). -/
theorem exec_start_cases (s : State) :
    (s.sess = false ∧ exec .start s = .next { raise .noSession s with bus := .writeDone }) ∨
    (s.sess = true ∧
      exec .start s =
        .next { ok { clearKeystream { s with S := s.S.set 12 0 } with ctrwrap := false, msg := true } with
                  bus := .writeDone }) := by
  rcases Bool.eq_false_or_eq_true s.sess with hs | hs
  · exact .inr ⟨hs, execStart_of_session s hs⟩
  · exact .inl ⟨hs, execStart_of_no_session s hs⟩

/-! ### CMD writes among the instructions -/

/-- The CMD row of a word is no CMD write. -/
theorem decodeCommandWord_ne_wrCmd (c d : Word) : decodeCommandWord c ≠ .wrCmd d := by
  unfold decodeCommandWord
  split
  · rename_i k _
    cases k <;> simp [Instr.ofCommand]
  · simp

/-- A word is the word of a command, or its row is ILLEGAL_CMD. -/
theorem command_or_illegal (c : Word) :
    (∃ k : Command, c = k.word ∧ decodeCommandWord c = Instr.ofCommand k) ∨
      decodeCommandWord c = .illegalCmd c := by
  cases h : decodeCommand c with
  | none => exact .inr (decodeCommandWord_illegal h)
  | some k => exact .inl ⟨k, decodeCommand_some h, by simp [decodeCommandWord, h]⟩

/-- What holds of every instruction but the CMD write, and of the CMD write where it holds of its row, holds of every
instruction. -/
theorem instr_induction {P : Instr → Prop} (row : ∀ i, (∀ c, i ≠ .wrCmd c) → P i)
    (cmd : ∀ c, P (decodeCommandWord c) → P (.wrCmd c)) (i : Instr) : P i := by
  by_cases h : ∃ c, i = .wrCmd c
  · obtain ⟨c, rfl⟩ := h
    exact cmd c (row _ (decodeCommandWord_ne_wrCmd c))
  · exact row i fun c e => h ⟨c, e⟩

end Sys2Proof.Laws
end

