-- ==== Sys2Proof/Laws/Step.lean ====
section
/-! SUPPORT. What a step can do, said once. -/

namespace Sys2Proof.Laws
open Sys2Proof.Machine

theorem step_of_no_input {s : State} (h : s.inputs = []) : step s = .next (idle s) := by
  simp [step, h]

theorem step_of_reset {s : State} {held : Option Transaction} {rest : List HostInput}
    (h : s.inputs = .reset held :: rest) : step s = .next (applyReset (takeInput s)) := by
  simp [step, h]

theorem step_of_transaction {s : State} {t : Transaction} {rest : List HostInput} (hr : s.resetDone = true)
    (h : s.inputs = .transact t :: rest) : step s = exec (decodeTransaction t) (takeInput s) := by
  simp [step, h, accepts, hr]

theorem step_before_reset {s : State} {t : Transaction} {rest : List HostInput} (hr : s.resetDone = false)
    (h : s.inputs = .transact t :: rest) : step s = .refused .beforeFirstReset := by
  simp [step, h, accepts, hr]

/-- If a step answers a next state, the core idled, or it was reset, or it ran a transaction after a reset. -/
theorem step_cases {s t : State} (h : step s = .next t) :
    (s.inputs = [] ∧ t = idle s) ∨
    (∃ held rest, s.inputs = .reset held :: rest ∧ t = applyReset (takeInput s)) ∨
    (∃ tr rest, s.inputs = .transact tr :: rest ∧ s.resetDone = true ∧
      exec (decodeTransaction tr) (takeInput s) = .next t) := by
  unfold step at h
  split at h
  · rename_i hi
    cases h
    exact .inl ⟨hi, rfl⟩
  · rename_i held rest hi
    cases h
    exact .inr (.inl ⟨held, rest, hi, rfl⟩)
  · rename_i tr rest hi
    split at h
    · rename_i ha
      exact .inr (.inr ⟨tr, rest, hi, ha, h⟩)
    · cases h

/-- Presenting a table word makes the very next step run its instruction, at a state that differs only in that reset has
been done (log entry 4). -/
theorem step_withFetchWord {s : State} {nbits w : Nat} {e : Encoding} (h : tableEncoding nbits w = some e) :
    step (s.withFetchWord nbits w) = exec (decodeTransaction e.transaction) { s with resetDone := true } := by
  simp [State.withFetchWord, presentTableWord, h, step, present, accepts, takeInput]

end Sys2Proof.Laws
end

