-- ==== Sys2Proof/Laws/Message.lean ====
section
/-! SUPPORT. An open message between two data writes, said once: where the counter, KSPTR, KS and CTRWRAP stand after
`j` of its bytes (`42_stream_cipher.md` R160, R163, R170), and that a data write moves it on. -/

namespace Sys2Proof.Laws
open Sys2Proof.Machine

/-- Keystream byte `j` of a message whose cipher state is `base` but for the counter (R160). -/
def streamByte (base : Vector Word 16) (j : Nat) : Byte :=
  (keystreamBytes (base.set 12 (BitVec.ofNat 32 (j / 64))))[j % 64]'(Nat.mod_lt _ (by decide))

/-- A message whose cipher state is `base` but for the counter has taken `j` bytes. -/
structure InMessage (base : Vector Word 16) (j : Nat) (s : State) : Prop where
  open_ : s.msg = true
  state : s.S = base.set 12 (BitVec.ofNat 32 ((j + 63) / 64))
  pointer : s.ksptr.val = if j = 0 then 64 else (j - 1) % 64 + 1
  keystream : s.ksptr.val < 64 → s.ks = keystreamBytes (base.set 12 (BitVec.ofNat 32 (j / 64)))
  wrapped : s.ctrwrap = decide (2 ^ 32 ≤ (j + 63) / 64)

theorem InMessage.pointer_of_partial {base : Vector Word 16} {j : Nat} {s : State} (h : InMessage base j s)
    (hp : s.ksptr.val < 64) : s.ksptr.val = j % 64 := by
  have := h.pointer
  split at this <;> omega

theorem InMessage.pointer_of_full {base : Vector Word 16} {j : Nat} {s : State} (h : InMessage base j s)
    (hp : s.ksptr.val = 64) : j % 64 = 0 := by
  have := h.pointer
  split at this <;> omega

/-- `XorByte` moves a message on by one byte (R163). -/
theorem InMessage.xorByte {base : Vector Word 16} {j : Nat} {s : State} (h : InMessage base j s) (b : Byte) :
    (xorByte b s).1 = b ^^^ streamByte base j ∧ InMessage base (j + 1) (xorByte b s).2 := by
  have hs := h.state
  by_cases hp : s.ksptr.val < 64
  · have hj := h.pointer_of_partial hp
    have hk := h.keystream hp
    have hj0 : j % 64 ≠ 0 := by
      have := h.pointer
      split at this <;> omega
    rw [xorByte_of_lt b s hp]
    refine ⟨by simp [streamByte, hk, hj], ⟨h.open_, ?_, ?_, ?_, ?_⟩⟩
    · simp only [hs]
      congr 2
      omega
    · simp only [hj]
      split <;> omega
    · intro hlt
      simp only at hlt
      simp only [hk]
      congr 3
      omega
    · simp only [h.wrapped]
      congr 2
      omega
  · have hfull : s.ksptr.val = 64 := by omega
    have hj := h.pointer_of_full hfull
    have hdiv : (j + 63) / 64 = j / 64 := by omega
    rw [xorByte_of_full b s (Fin.ext hfull)]
    have hn : BitVec.ofNat 32 (j / 64) + 1 = BitVec.ofNat 32 ((j + 1 + 63) / 64) := by
      apply BitVec.eq_of_toNat_eq
      simp only [BitVec.toNat_add, BitVec.toNat_ofNat, show (1 : Word).toNat = 1 from rfl]
      omega
    have hw : s.S[12] = BitVec.ofNat 32 (j / 64) := by simp [hs, hdiv]
    refine ⟨by simp [streamByte, hj, hs, hdiv], ⟨h.open_, ?_, ?_, ?_, ?_⟩⟩
    · simp only [genBlock, freeX, advanceCounter]
      rw [hw, hn, hs]
      simp
    · show (1 : Fin 65).val = _
      simp
      omega
    · intro _
      show keystreamBytes s.S = _
      rw [hs, hdiv]
      congr 3
      omega
    · show (s.ctrwrap || counterCarries s.S[12]) = _
      rw [h.wrapped, hw, hdiv, counterCarries, ← Bool.decide_or, decide_eq_decide, ← BitVec.toNat_inj]
      simp only [BitVec.toNat_ofNat, show (0xFFFFFFFF : Word).toNat = 4294967295 from rfl]
      omega

/-- Four bytes through `XorByte` move a message on by four (R165). -/
theorem InMessage.xorWord {base : Vector Word 16} {j : Nat} {s : State} (h : InMessage base j s) (d : Vector Byte 4) :
    (xorWord d s).1 =
        #v[d[0] ^^^ streamByte base j, d[1] ^^^ streamByte base (j + 1), d[2] ^^^ streamByte base (j + 2),
          d[3] ^^^ streamByte base (j + 3)] ∧
      InMessage base (j + 4) (xorWord d s).2 := by
  obtain ⟨e0, h0⟩ := h.xorByte d[0]
  obtain ⟨e1, h1⟩ := h0.xorByte d[1]
  obtain ⟨e2, h2⟩ := h1.xorByte d[2]
  obtain ⟨e3, h3⟩ := h2.xorByte d[3]
  exact ⟨by simp only [Machine.xorWord, e0, e1, e2, e3], h3⟩

/-- A block request falls in the next byte exactly at a block's end, and it is refused only past 2^38 bytes with
OVFFAIL = 1 (R163). -/
theorem InMessage.accepted {base : Vector Word 16} {j n : Nat} {s : State} (h : InMessage base j s)
    (hn : s.ovffail = false ∨ j + n ≤ 2 ^ 38) (hpos : 0 < n) :
    s.ksptr.val + n ≤ 64 ∨ overflowRefused s = false := by
  rcases hn with ho | hj
  · exact .inr (by simp [overflowRefused, ho])
  · by_cases hp : s.ksptr.val + n ≤ 64
    · exact .inl hp
    · right
      have : ¬ 2 ^ 32 ≤ (j + 63) / 64 := by
        have := h.pointer
        split at this <;> omega
      simp only [overflowRefused, h.wrapped, decide_eq_false this, Bool.false_and]

/-- An accepted DATA_B write moves a message on by one byte (R164). -/
theorem InMessage.dataByte {base : Vector Word 16} {j : Nat} {s : State} (h : InMessage base j s)
    (hn : s.ovffail = false ∨ j + 1 ≤ 2 ^ 38) (w : Word) :
    ∃ t, exec (.wrDataB w) s = .next t ∧ InMessage base (j + 1) t ∧ t.result = 0 ∧
      t.dout = zext32 (byteOperand w ^^^ streamByte base j) ∧ t.bus = .writeDone ∧ t.sess = s.sess ∧
      t.ovffail = s.ovffail ∧ t.errf = s.errf ∧ t.resetDone = s.resetDone ∧ t.inputs = s.inputs := by
  have ha := h.accepted hn (by decide)
  have hx := h.xorByte (byteOperand w)
  rcases exec_wrDataB_cases w s with ⟨hm, -⟩ | ⟨-, hk, ho, -⟩ | ⟨-, hk, e⟩ | ⟨-, hk, -, e⟩
  · simp [h.open_] at hm
  · simp [hk, ho] at ha
  · rw [xorByte_of_lt _ _ hk] at hx
    obtain ⟨hd, a, b, c, d, f⟩ := hx
    exact ⟨_, e, ⟨a, b, c, d, f⟩, rfl, congrArg zext32 hd, rfl, rfl, rfl, rfl, rfl, rfl⟩
  · rw [xorByte_of_full _ _ hk] at hx
    obtain ⟨hd, a, b, c, d, f⟩ := hx
    exact ⟨_, e, ⟨a, b, c, d, f⟩, rfl, congrArg zext32 hd, rfl, rfl, rfl, rfl, rfl, rfl⟩

/-- An accepted DATA_W write moves a message on by four bytes (R165). -/
theorem InMessage.dataWord {base : Vector Word 16} {j : Nat} {s : State} (h : InMessage base j s)
    (hn : s.ovffail = false ∨ j + 4 ≤ 2 ^ 38) (w : Word) :
    ∃ t, exec (.wrDataW w) s = .next t ∧ InMessage base (j + 4) t ∧ t.result = 0 ∧
      t.dout = xorOutput w (streamByte base j) (streamByte base (j + 1)) (streamByte base (j + 2))
        (streamByte base (j + 3)) ∧ t.bus = .writeDone ∧ t.sess = s.sess ∧
      t.ovffail = s.ovffail ∧ t.errf = s.errf ∧ t.resetDone = s.resetDone ∧ t.inputs = s.inputs := by
  have ha := h.accepted hn (by decide)
  have hx := h.xorWord (wordOperand w)
  rcases exec_wrDataW_cases w s with ⟨hm, -⟩ | ⟨-, hk, ho, -⟩ | ⟨-, hk, e⟩ | ⟨-, -, hk, e⟩
  · simp [h.open_] at hm
  · simp only [ho, Bool.true_eq_false, or_false] at ha
    omega
  · rw [xorWord_of_le _ _ hk] at hx
    obtain ⟨hd, a, b, c, d, f⟩ := hx
    simp only [Vector.mk.injEq, Array.mk.injEq, List.cons.injEq, BitVec.xor_right_inj] at hd
    exact ⟨_, e, ⟨a, b, c, d, f⟩, rfl, by simp only [hd], rfl, rfl, rfl, rfl, rfl, rfl⟩
  · rw [xorWord_of_gt _ _ hk] at hx
    obtain ⟨hd, a, b, c, d, f⟩ := hx
    simp only [Vector.mk.injEq, Array.mk.injEq, List.cons.injEq, BitVec.xor_right_inj] at hd
    exact ⟨_, e, ⟨a, b, c, d, f⟩, rfl, by simp only [hd], rfl, rfl, rfl, rfl, rfl, rfl⟩

/-- A START in a session opens a message that has taken no byte (R161). -/
theorem exec_start_inMessage (s : State) (h : s.sess = true) :
    ∃ t, exec .start s = .next t ∧ InMessage s.S 0 t ∧ t.bus = .writeDone ∧ t.sess = true ∧
      t.ovffail = s.ovffail ∧ t.resetDone = s.resetDone ∧ t.inputs = s.inputs := by
  rcases exec_start_cases s with ⟨hs, -⟩ | ⟨-, e⟩
  · simp [h] at hs
  · exact ⟨_, e, ⟨rfl, rfl, rfl, fun hp => absurd hp (Nat.lt_irrefl 64), rfl⟩, rfl, h, rfl, rfl, rfl⟩

end Sys2Proof.Laws
end

