-- ==== Sys2Proof/Laws/PerInstr.lean ====
section
/-! SUPPORT. The families of statements about every instruction as syntax, one lemma per constructor. -/

namespace Sys2Proof.Laws

/-- The transaction that carries an instruction's encoding decodes, at the port, to the instruction itself for a BUS row
and to the CMD write of its word for a CMD row (`30_encoding.md` R70, R72). -/
def OneTransaction.Statement (i : Instr) : Prop :=
  decodeTransaction (encode i).transaction =
    match encode i with
    | .cmd c => .wrCmd c
    | .bus _ => i

theorem OneTransaction.nop : OneTransaction.Statement .nop := rfl
theorem OneTransaction.session : OneTransaction.Statement .session := rfl
theorem OneTransaction.rekey : OneTransaction.Statement .rekey := rfl
theorem OneTransaction.renonce : OneTransaction.Statement .renonce := rfl
theorem OneTransaction.start : OneTransaction.Statement .start := rfl
theorem OneTransaction.endMsg : OneTransaction.Statement .endMsg := rfl
theorem OneTransaction.clrstage : OneTransaction.Statement .clrstage := rfl
theorem OneTransaction.clear : OneTransaction.Statement .clear := rfl
theorem OneTransaction.clrerr : OneTransaction.Statement .clrerr := rfl
theorem OneTransaction.illegalCmd (c : Word) : OneTransaction.Statement (.illegalCmd c) := rfl
theorem OneTransaction.rdCtrl : OneTransaction.Statement .rdCtrl := rfl
theorem OneTransaction.wrCtrl (w : Word) : OneTransaction.Statement (.wrCtrl w) := rfl
theorem OneTransaction.rdCmd : OneTransaction.Statement .rdCmd := rfl
theorem OneTransaction.wrCmd (c : Word) : OneTransaction.Statement (.wrCmd c) := rfl
theorem OneTransaction.rdStatus : OneTransaction.Statement .rdStatus := rfl
theorem OneTransaction.wrStatus (w : Word) : OneTransaction.Statement (.wrStatus w) := rfl
theorem OneTransaction.rdCtr : OneTransaction.Statement .rdCtr := rfl
theorem OneTransaction.wrCtr (w : Word) : OneTransaction.Statement (.wrCtr w) := rfl
theorem OneTransaction.rdKeyIn : OneTransaction.Statement .rdKeyIn := rfl
theorem OneTransaction.wrKeyIn (w : Word) : OneTransaction.Statement (.wrKeyIn w) := rfl
theorem OneTransaction.rdNonceIn : OneTransaction.Statement .rdNonceIn := rfl
theorem OneTransaction.wrNonceIn (w : Word) : OneTransaction.Statement (.wrNonceIn w) := rfl
theorem OneTransaction.rdStage : OneTransaction.Statement .rdStage := rfl
theorem OneTransaction.wrStage (w : Word) : OneTransaction.Statement (.wrStage w) := rfl
theorem OneTransaction.rdRsv1C : OneTransaction.Statement .rdRsv1C := rfl
theorem OneTransaction.wrRsv1C (w : Word) : OneTransaction.Statement (.wrRsv1C w) := rfl
theorem OneTransaction.rdDataB : OneTransaction.Statement .rdDataB := rfl
theorem OneTransaction.wrDataB (w : Word) : OneTransaction.Statement (.wrDataB w) := rfl
theorem OneTransaction.rdDataW : OneTransaction.Statement .rdDataW := rfl
theorem OneTransaction.wrDataW (w : Word) : OneTransaction.Statement (.wrDataW w) := rfl
theorem OneTransaction.rdDout : OneTransaction.Statement .rdDout := rfl
theorem OneTransaction.wrDout (w : Word) : OneTransaction.Statement (.wrDout w) := rfl
theorem OneTransaction.rdRsv2C : OneTransaction.Statement .rdRsv2C := rfl
theorem OneTransaction.wrRsv2C (w : Word) : OneTransaction.Statement (.wrRsv2C w) := rfl
theorem OneTransaction.rdRsv30 : OneTransaction.Statement .rdRsv30 := rfl
theorem OneTransaction.wrRsv30 (w : Word) : OneTransaction.Statement (.wrRsv30 w) := rfl
theorem OneTransaction.rdRsv34 : OneTransaction.Statement .rdRsv34 := rfl
theorem OneTransaction.wrRsv34 (w : Word) : OneTransaction.Statement (.wrRsv34 w) := rfl
theorem OneTransaction.rdRsv38 : OneTransaction.Statement .rdRsv38 := rfl
theorem OneTransaction.wrRsv38 (w : Word) : OneTransaction.Statement (.wrRsv38 w) := rfl
theorem OneTransaction.rdRsv3C : OneTransaction.Statement .rdRsv3C := rfl
theorem OneTransaction.wrRsv3C (w : Word) : OneTransaction.Statement (.wrRsv3C w) := rfl

end Sys2Proof.Laws
end

