-- ==== Sys2Proof/Laws/Script.lean ====
section
/-! SUPPORT. What running a script does: one presented transaction, and a script in two parts. -/

namespace Sys2Proof.Laws
open Sys2Proof.Machine

/-- A transaction presented to a core that has been reset is its row (R260). -/
theorem step_present (t : Transaction) (s : State) (h : s.resetDone = true) :
    step (present (.transact t) s) = exec (decodeTransaction t) s :=
  step_of_transaction (s := present (.transact t) s) h rfl

/-- The run of a script's first transaction and of the rest. -/
theorem runSteps_cons {x : ScriptStep} {rest : List ScriptStep} {s s1 : State} {run : ScriptRun}
    (hr : s.resetDone = true) (h : exec (decodeTransaction x.transaction) s = .next s1)
    (hrun : runSteps rest s1 = .next run) :
    runSteps (x :: rest) s =
      .next ⟨run.final, s1.bus.rdata.toList ++ run.shown,
        run.asserted && (x.asserts.all fun v => s1.bus.rdata == some v)⟩ := by
  simp only [runSteps, step_present _ _ hr, h, hrun]

/-- Two scripts, one after the other. -/
theorem runSteps_append {a b : List ScriptStep} {s : State} {r1 r2 : ScriptRun} (h1 : runSteps a s = .next r1)
    (h2 : runSteps b r1.final = .next r2) :
    runSteps (a ++ b) s = .next ⟨r2.final, r1.shown ++ r2.shown, r1.asserted && r2.asserted⟩ := by
  induction a generalizing s r1 with
  | nil =>
    cases h1
    simpa using h2
  | cons x a ih =>
    simp only [runSteps] at h1
    simp only [List.cons_append, runSteps]
    cases hs : step (present (.transact x.transaction) s) with
    | fault f => simp [hs] at h1
    | refused r => simp [hs] at h1
    | next s1 =>
      simp only [hs] at h1
      cases ha : runSteps a s1 with
      | fault f => simp [ha] at h1
      | refused r => simp [ha] at h1
      | next ra =>
        simp only [ha] at h1
        cases h1
        simp only [ih ha h2, List.append_assoc]
        rw [Bool.and_right_comm]

end Sys2Proof.Laws
end

