-- ==== Sys2Proof/Tests/Slice0.lean ====
section
/-! SUPPORT. Tests. The expected values are the spec's: `30_encoding.md` R73 and R78 for the words, `95_test_vectors.md`
for the rest (the vector is named by each test); none comes from a run of this model. Then, for each obligation with
hypotheses, a state and operands that meet them. -/

namespace Sys2Proof.Tests
open Sys2Proof.Machine

/-! ### Well-formedness -/

/-- The one check: ILLEGAL_CMD does not stand for the word of a command (R74, R75). -/
theorem test_wf_refuses_command_words :
    [0x00, 0x01, 0x08].all (fun c => (Instr.illegalCmd c).wf) = false ∧ (Instr.illegalCmd 1).wf = false ∧
    (Instr.illegalCmd 9).wf = true ∧ (Instr.illegalCmd 0x101).wf = true := by decide

/-! ### Decoding: words written out from R73 and R78 -/

/-- TC = `0AAAA00`, 8 bits. -/
theorem test_decode_reads :
    ([(0b00000000, .rdCtrl), (0b00000100, .rdCmd), (0b00001000, .rdStatus), (0b00001100, .rdCtr),
      (0b00010000, .rdKeyIn), (0b00010100, .rdNonceIn), (0b00011000, .rdStage), (0b00011100, .rdRsv1C),
      (0b00100000, .rdDataB), (0b00100100, .rdDataW), (0b00101000, .rdDout), (0b00101100, .rdRsv2C),
      (0b00110000, .rdRsv30), (0b00110100, .rdRsv34), (0b00111000, .rdRsv38), (0b00111100, .rdRsv3C)] : List (Nat × Instr)).all
      (fun p => decodeTableWord 8 p.1 == some p.2) = true := by decide

/-- TC = `1AAAA00` in the low byte, then `wdata` = 0x89ABCD01. -/
theorem test_decode_writes :
    ([(0x89ABCD0140, .wrCtrl 0x89ABCD01), (0x89ABCD0144, .wrCmd 0x89ABCD01),
      (0x89ABCD0148, .wrStatus 0x89ABCD01), (0x89ABCD014C, .wrCtr 0x89ABCD01),
      (0x89ABCD0150, .wrKeyIn 0x89ABCD01), (0x89ABCD0154, .wrNonceIn 0x89ABCD01),
      (0x89ABCD0158, .wrStage 0x89ABCD01), (0x89ABCD015C, .wrRsv1C 0x89ABCD01),
      (0x89ABCD0160, .wrDataB 0x89ABCD01), (0x89ABCD0164, .wrDataW 0x89ABCD01),
      (0x89ABCD0168, .wrDout 0x89ABCD01), (0x89ABCD016C, .wrRsv2C 0x89ABCD01),
      (0x89ABCD0170, .wrRsv30 0x89ABCD01), (0x89ABCD0174, .wrRsv34 0x89ABCD01),
      (0x89ABCD0178, .wrRsv38 0x89ABCD01), (0x89ABCD017C, .wrRsv3C 0x89ABCD01)] : List (Nat × Instr)).all
      (fun p => decodeTableWord 40 p.1 == some p.2) = true := by decide

/-- The command words of R73, and two that no command has (V-CS-3a, V-CS-3b). -/
theorem test_decode_command_words :
    ([(0x00, .nop), (0x01, .session), (0x02, .rekey), (0x03, .renonce), (0x04, .start), (0x05, .endMsg),
      (0x06, .clrstage), (0x07, .clear), (0x08, .clrerr), (0x09, .illegalCmd 0x09), (0xFF, .illegalCmd 0xFF),
      (0x101, .illegalCmd 0x101), (0x80000001, .illegalCmd 0x80000001)] : List (Nat × Instr)).all
      (fun p => decodeTableWord 32 p.1 == some p.2) = true := by decide

/-- What is no transaction code: bit 7 set, or bits 1:0 not 00 (R56, R70). -/
theorem test_decode_rejects :
    decodeTransactionCode 0x80 0 = .error .widerThanTransactionCode ∧
    decodeTransactionCode 0x41 0 = .error .lowAddressBits ∧ decodeTableWord 8 0x02 = none := by decide

/-! ### States for the tests -/

/-- `p` of the state after an instruction. -/
def after (i : Instr) (s : State) (p : State → Bool) : Bool :=
  match exec i s with
  | .next t => p t
  | .fault _ => false
  | .refused _ => false

/-- What a read shows. -/
def shows (i : Instr) (s : State) (v : Word) : Bool := after i s fun t => t.bus == .readDone v

/-- Session Z: the all-zero key and nonce (V-SB-2). -/
def sessionZ : State :=
  { State.reset with S := #v[0x61707865, 0x3320646E, 0x79622D32, 0x6B206574, 0, 0, 0, 0, 0, 0, 0, 0, 0, 0, 0, 0],
                     sess := true, bus := .writeDone }

/-- Session Z with a message open. -/
def messageZ : State := { sessionZ with msg := true }

/-- Key bytes 00 01 … 1F and the nonce of V-SB-1, staged. -/
def staged (s : State) : State :=
  { s with
    keybuf := #v[0x00, 0x01, 0x02, 0x03, 0x04, 0x05, 0x06, 0x07, 0x08, 0x09, 0x0A, 0x0B, 0x0C, 0x0D, 0x0E, 0x0F,
      0x10, 0x11, 0x12, 0x13, 0x14, 0x15, 0x16, 0x17, 0x18, 0x19, 0x1A, 0x1B, 0x1C, 0x1D, 0x1E, 0x1F]
    keycnt := 32, noncebuf := #v[0x00, 0x00, 0x00, 0x09, 0x00, 0x00, 0x00, 0x4A, 0x00, 0x00, 0x00, 0x00]
    noncecnt := 12 }

/-- Keystream block 0 of Session Z (V-BLK-1). -/
def blockZero : Vector Byte 64 :=
  #v[0x76, 0xB8, 0xE0, 0xAD, 0xA0, 0xF1, 0x3D, 0x90, 0x40, 0x5D, 0x6A, 0xE5, 0x53, 0x86, 0xBD, 0x28,
    0xBD, 0xD2, 0x19, 0xB8, 0xA0, 0x8D, 0xED, 0x1A, 0xA8, 0x36, 0xEF, 0xCC, 0x8B, 0x77, 0x0D, 0xC7,
    0xDA, 0x41, 0x59, 0x7C, 0x51, 0x57, 0x48, 0x8D, 0x77, 0x24, 0xE0, 0x3F, 0xB8, 0xD8, 0x4A, 0x37,
    0x6A, 0x43, 0xB8, 0xF4, 0x15, 0x18, 0xA1, 0x1C, 0xC3, 0x87, 0xB6, 0x69, 0xB2, 0xEE, 0x65, 0x86]

/-- The block of Session Z at the counter 0xFFFFFFFF (V-BLK-5). -/
def blockLast : Vector Byte 64 :=
  #v[0xAC, 0xE4, 0xCD, 0x09, 0xE2, 0x94, 0xD1, 0x91, 0x2D, 0x4A, 0xD2, 0x05, 0xD0, 0x6F, 0x95, 0xD9,
    0xC2, 0xF2, 0xBF, 0xCF, 0x45, 0x3E, 0x87, 0x53, 0xF1, 0x28, 0x76, 0x5B, 0x62, 0x21, 0x5F, 0x4D,
    0x92, 0xC7, 0x4F, 0x2F, 0x62, 0x6C, 0x6A, 0x64, 0x0C, 0x0B, 0x12, 0x84, 0xD8, 0x39, 0xEC, 0x81,
    0xF1, 0x69, 0x62, 0x81, 0xDA, 0xFC, 0x3E, 0x68, 0x45, 0x93, 0x93, 0x70, 0x23, 0xB5, 0x8B, 0x1D]

/-- The start of V-SC-7: the last counter value is still to be used. -/
def lastBlockZ : State := { messageZ with S := messageZ.S.set 12 0xFFFFFFFF }

/-- V-SC-7 before its part (3): the counter has wrapped and three bytes of the last block are left. -/
def wrappedZ (fail : Bool) : State :=
  { messageZ with ks := blockLast, ksptr := 61, ctrwrap := true, ovffail := fail, dout := 0x23709393 }

/-! ### Arithmetic, quarter-round, rounds, blocks -/

/-- V-ROT-1 to V-ROT-6, V-ADD-1, SX-1. -/
theorem test_arithmetic :
    rotl 0x80000000 1 = 0x00000001 ∧ rotl 0x12345678 16 = 0x56781234 ∧ rotl 0xFFFFFFFF 7 = 0xFFFFFFFF ∧
    rotl 0x00000001 7 = 0x00000080 ∧ rotl 0x80000001 12 = 0x00001800 ∧ rotl 0x01020304 8 = 0x02030401 ∧
    (0xFFFFFFFF + 0x00000001 : Word) = 0 ∧ le32 0x01 0x02 0x03 0x04 = 0x04030201 := by decide +kernel

/-- The four words of a quarter-round on slots 2, 7, 8 and 13. -/
def quarterRoundOf (a b c d : Word) : List Word :=
  let X := quarterRound 2 7 8 13 (((((Vector.replicate 16 0).set 2 a).set 7 b).set 8 c).set 13 d)
  [X[2], X[7], X[8], X[13]]

/-- V-QR-1 and V-QR-5. -/
theorem test_quarter_round :
    quarterRoundOf 0x11111111 0x01020304 0x9B8D6F43 0x01234567 =
      [0xEA2A92F4, 0xCB1CF8CE, 0x4581472E, 0x5881C4BB] ∧
    quarterRoundOf 0xFFFFFFFF 0xFFFFFFFF 0xFFFFFFFF 0xFFFFFFFF =
      [0xF0000FFD, 0x88790878, 0x0110FDEF, 0x010FFDF0] := by decide +kernel

/-- The input of V-RND-1, V-RND-2 and V-BLK-3. -/
def stateA : Vector Word 16 :=
  #v[0x61707865, 0x3320646E, 0x79622D32, 0x6B206574, 0x03020100, 0x07060504, 0x0B0A0908, 0x0F0E0D0C,
    0x13121110, 0x17161514, 0x1B1A1918, 0x1F1E1D1C, 0x00000001, 0x09000000, 0x4A000000, 0x00000000]

/-- V-RND-1. -/
theorem test_column_round : columnRound stateA =
  #v[0xABBAA25C, 0x1EFA51EA, 0x7354FBDF, 0x83D2DC69, 0x3A465196, 0x1C7E64F6, 0xB12FB628, 0xF05B6976,
    0x6B3CA454, 0x08EB14B1, 0xBF8A9AC9, 0xE444DF3B, 0xDEC62ED2, 0x8862CC77, 0x6E35B345, 0x52A647F1] := by decide +kernel

/-- V-RND-2. -/
theorem test_double_round : doubleRound stateA =
  #v[0xCD52E917, 0x85AB03B4, 0xB3457395, 0xF96DE7DD, 0xC4B7CD22, 0x5C2E187A, 0xC95EB461, 0x316C801A,
    0x7BF7D740, 0x7EDDD644, 0xF1A1BDF5, 0x761246CA, 0x6B0D58A3, 0x6798471A, 0xD737F167, 0xF173888D] := by decide +kernel

/-- V-BLK-3. -/
theorem test_block : block stateA =
  #v[0xE4E7F110, 0x15593BD1, 0x1FDD0F50, 0xC47120A3, 0xC7F4D1C7, 0x0368C033, 0x9AAA2204, 0x4E6CD4C3,
    0x466482D2, 0x09AA9F07, 0x05D7C214, 0xA2028BD9, 0xD19C12B5, 0xB94E16DE, 0xE883D0CB, 0x4E3C50A2] := by decide +kernel

/-- V-BLK-1: the known answer of the source (SX-3). -/
theorem test_keystream_zero : keystreamBytes sessionZ.S = blockZero := by decide +kernel

/-- V-BLK-5: the last block before the wrap. -/
theorem test_keystream_last : keystreamBytes lastBlockZ.S = blockLast := by decide +kernel

/-! ### The state initializer -/

/-- V-SB-1: SESSION on the staged key and nonce. -/
theorem test_session : after .session (staged State.reset) (fun t =>
    t.S == #v[0x61707865, 0x3320646E, 0x79622D32, 0x6B206574, 0x03020100, 0x07060504, 0x0B0A0908, 0x0F0E0D0C,
      0x13121110, 0x17161514, 0x1B1A1918, 0x1F1E1D1C, 0x00000000, 0x09000000, 0x4A000000, 0x00000000] &&
    statusWord t == 0x00400001 && stageWord t == 0) = true := by decide +kernel

/-- V-SB-3a, V-SB-3b, V-SB-3c, V-SB-3d, V-SB-3e: wrong lengths, the key checked first. -/
theorem test_session_rejects :
    ([(31, 12, 0x00400108), (33, 12, 0x00400108), (32, 11, 0x00400208), (32, 13, 0x00400208),
        (31, 13, 0x00400108)] : List (BitVec 6 × BitVec 6 × Word)).all (fun p =>
      after .session { State.reset with keycnt := p.1, noncecnt := p.2.1 } fun t =>
        statusWord t == p.2.2 && stageWord t == 0 && t.S == Vector.replicate 16 0) = true := by decide +kernel

/-- V-SB-4a. -/
theorem test_rekey_without_session : after .rekey { State.reset with keycnt := 32 } (fun t =>
    statusWord t == 0x00400308 && stageWord t == 0) = true := by decide +kernel

/-- V-SB-6: REKEY in a message. -/
theorem test_rekey : after .rekey (staged { messageZ with S := messageZ.S.set 12 1, ksptr := 1, dout := 0x76 }) (fun t =>
    t.S[4] == 0x03020100 && t.S[11] == 0x1F1E1D1C && t.S[12] == 0 && t.S[13] == 0 && statusWord t == 0x00400001 &&
      t.dout == 0x76 && t.noncecnt == 12) = true := by decide +kernel

/-- V-SB-4b. -/
theorem test_renonce_without_session : after .renonce { State.reset with noncecnt := 12 } (fun t =>
    statusWord t == 0x00400308 && stageWord t == 0) = true := by decide +kernel

/-- V-SB-7: RENONCE, the key words as they were. -/
theorem test_renonce : after .renonce (staged { sessionZ with S := sessionZ.S.set 11 0x01000000 }) (fun t =>
    t.S[11] == 0x01000000 && t.S[13] == 0x09000000 && t.S[14] == 0x4A000000 && t.S[15] == 0 &&
      statusWord t == 0x00400001 && t.keycnt == 32) = true := by decide +kernel

/-- V-SB-9, and the stored byte. -/
theorem test_key_in : after (.wrKeyIn 0x1FF) State.reset (fun t =>
    t.keybuf[0] == 0xFF && stageWord t == 0x00000001 && t.result == 0) = true := by decide +kernel

/-- V-SB-5: the count saturates. -/
theorem test_key_in_saturates : after (.wrKeyIn 0) { State.reset with keycnt := 63 } (fun t =>
    stageWord t == 0x0000003F) = true := by decide +kernel

/-- R101's example: the 13th nonce byte is counted and not stored. -/
theorem test_nonce_in : after (.wrNonceIn 0xAA) (staged State.reset) (fun t =>
    t.noncecnt == 13 && t.noncebuf == (staged State.reset).noncebuf) = true := by decide +kernel

/-- R108's example. -/
theorem test_clrstage : after .clrstage { State.reset with keycnt := 5, noncecnt := 12, errf := true, result := 1 } (fun t =>
    stageWord t == 0 && statusWord t == 0x00400008) = true := by decide +kernel

/-- V-SB-8: CLEAR in a message. -/
theorem test_clear : after .clear { messageZ with S := messageZ.S.set 12 1, ks := blockZero, ksptr := 1, dout := 0x37
                                                  keycnt := 1, keybuf := (Vector.replicate 32 0).set 0 7 } (fun t =>
    statusWord t == 0x00400000 && t.S == Vector.replicate 16 0 && stageWord t == 0 && t.dout == 0 &&
      t.ks == Vector.replicate 64 0 && t.keybuf == Vector.replicate 32 0) = true := by decide +kernel

/-! ### The stream cipher -/

/-- V-SC-5c, and the example of R161. -/
theorem test_start :
    after .start State.reset (fun t => statusWord t == 0x00400308) = true ∧
    after .start { sessionZ with S := sessionZ.S.set 12 5 } (fun t =>
      t.S[12] == 0 && statusWord t == 0x00400003) = true := by decide +kernel

/-- The example of R162. -/
theorem test_end : after .endMsg { messageZ with S := messageZ.S.set 12 2, ks := blockZero, ksptr := 1, dout := 0x9F } (fun t =>
    statusWord t == 0x00400001 && t.S[12] == 2 && t.dout == 0x9F && t.ks == Vector.replicate 64 0) = true := by
  decide +kernel

/-- V-SC-1 and V-SC-5a. -/
theorem test_data_byte :
    after (.wrDataB 0xFFFFFF00) messageZ (fun t =>
      t.dout == 0x00000076 && t.S[12] == 1 && statusWord t == 0x00010003 && t.ks == blockZero) = true ∧
    after (.wrDataB 0x41) sessionZ (fun t => statusWord t == 0x00400409 && t.dout == 0 && t.S[12] == 0) = true := by
  decide +kernel

/-- V-SC-7 (1): the last block sets CTRWRAP. -/
theorem test_data_byte_wraps : after (.wrDataB 0) lastBlockZ (fun t =>
    t.dout == 0x000000AC && t.S[12] == 0 && statusWord t == 0x00010007) = true := by decide +kernel

/-- V-SC-6 and V-SC-4: a word at a block's start, and one across its end. -/
theorem test_data_word :
    after (.wrDataW 0x44434241) messageZ (fun t => t.dout == 0xE9A3FA37 && statusWord t == 0x00040003) = true ∧
    after (.wrDataW 0) { messageZ with S := messageZ.S.set 12 1, ks := blockZero, ksptr := 61 } (fun t =>
      t.dout == 0x9F8665EE && t.S[12] == 2 && statusWord t == 0x00010003) = true := by decide +kernel

/-- V-SC-7 (3) and V-SC-8 (3): past the wrap the word reuses block 0, or fails and changes nothing. -/
theorem test_data_word_wrapped :
    after (.wrDataW 0) (wrappedZ false) (fun t =>
      t.dout == 0x761D8BB5 && t.S[12] == 1 && statusWord t == 0x00010007) = true ∧
    after (.wrDataW 0) (wrappedZ true) (fun t =>
      t.dout == 0x23709393 && t.S[12] == 0 && statusWord t == 0x003D050F) = true := by decide +kernel

/-- V-SC-8 (4): with OVFFAIL = 1 the bytes that are left still pass. -/
theorem test_data_byte_left_over : after (.wrDataB 0) { wrappedZ true with errf := true, result := 5 } (fun t =>
    t.dout == 0x000000B5 && statusWord t == 0x003E000F) = true := by decide +kernel

/-! ### Control and status -/

/-- V-CS-1: the reads after reset. -/
theorem test_reads_after_reset :
    shows .rdStatus State.reset 0x00400000 = true ∧
    ([.rdCtrl, .rdCmd, .rdCtr, .rdKeyIn, .rdNonceIn, .rdStage, .rdRsv1C, .rdDataB, .rdDataW, .rdDout, .rdRsv2C, .rdRsv30,
      .rdRsv34, .rdRsv38, .rdRsv3C] : List Instr).all (fun i => shows i State.reset 0) = true := by decide +kernel

/-- Reads of a state in which every register differs from 0: STATUS as in V-SC-8 (3), STAGE as in R196's example. -/
theorem test_reads :
    let s : State := { wrappedZ true with S := messageZ.S.set 12 2, errf := true, result := 5, keycnt := 31
                                          noncecnt := 13 }
    shows .rdStatus s 0x003D050F = true ∧ shows .rdCtrl s 1 = true ∧ shows .rdCtr s 2 = true ∧
    shows .rdStage s 0x00000D1F = true ∧ shows .rdDout s 0x23709393 = true ∧
    ([.rdCmd, .rdKeyIn, .rdNonceIn, .rdRsv1C, .rdDataB, .rdDataW, .rdRsv2C, .rdRsv30, .rdRsv34, .rdRsv38,
      .rdRsv3C] : List Instr).all (fun i => shows i s 0) = true := by decide +kernel

/-- V-CS-2. -/
theorem test_ctrl : after (.wrCtrl 0xFFFFFFFF) State.reset (fun t =>
    ctrlWord t == 0x00000001 && statusWord t == 0x00400000) = true ∧
    after (.wrCtrl 0xFFFFFFFE) { State.reset with ovffail := true } (fun t => ctrlWord t == 0) = true := by decide +kernel

/-- V-CS-4, and every other offset whose writes are ignored. -/
theorem test_ignored_writes :
    ([.wrStatus 0xFFFFFFFF, .wrCtr 5, .wrDout 7, .wrStage 1, .wrRsv1C 9, .wrRsv2C 9, .wrRsv30 9, .wrRsv34 9, .wrRsv38 9,
      .wrRsv3C 9] : List Instr).all (fun i => after i State.reset fun t =>
        t == { State.reset with bus := .writeDone }) = true := by decide +kernel

/-- V-CS-3a, V-CS-3b, V-CS-3c. -/
theorem test_illegal_command :
    ([0x09, 0x101, 0xFF] : List Word).all (fun c => after (.wrCmd c) State.reset fun t =>
      t == { State.reset with result := 6, errf := true, bus := .writeDone }) = true ∧
    after (.illegalCmd 0x09) State.reset (fun t => statusWord t == 0x00400608) = true := by decide +kernel

/-- V-CS-5a and V-CS-5b. -/
theorem test_nop_clrerr :
    let s : State := { State.reset with result := 6, errf := true }
    after .nop s (fun t => statusWord t == 0x00400008) = true ∧
    after .clrerr s (fun t => statusWord t == 0x00400000) = true := by decide +kernel

/-! ### The step -/

/-- A table word is the instruction of the very next step: a command word, a read's code, a write's code and `wdata`. -/
theorem test_fetch_word :
    step (State.reset.withFetchWord 32 0x00000009) = exec (.illegalCmd 9) State.reset ∧
    step (State.reset.withFetchWord 8 0b00001000) = exec .rdStatus State.reset ∧
    step (State.reset.withFetchWord 40 0x0000000944) = exec (.wrCmd 9) State.reset := ⟨rfl, rfl, rfl⟩

/-- Reset overrides a transaction that is held (R214, R242). -/
theorem test_reset_step :
    step { messageZ with inputs := [.reset (some (busWrite .dataB 0))], ovffail := true, errf := true } =
      .next State.reset := rfl

/-! ### Witnesses: states and operands that meet the hypotheses of each obligation -/

/-- The next input of a state. -/
def presenting (x : HostInput) (s : State) : State := { s with inputs := [x] }

theorem witness_DecodeInvertsEncode : (Instr.illegalCmd 0x09).wf = true ∧ (Instr.wrDataW 0x80000001).wf = true := by
  decide

/-- Each side of the disjunction at its edge. -/
theorem witness_CmdWriteDispatches_IllegalCommandWords :
    (0x00000100 : Word).extractLsb' 8 24 ≠ 0 ∧ 0x09 ≤ ((0x00000009 : Word).extractLsb' 0 8).toNat ∧
    0x09 ≤ ((0x000000FF : Word).extractLsb' 0 8).toNat := by decide

theorem witness_StepRunsTheDecodedInstruction :
    (Instr.start).wf = true ∧ sessionZ.resetDone = true ∧
    (presenting (.transact (encode .start).transaction) sessionZ).inputs = .transact (encode .start).transaction :: [] :=
  ⟨rfl, rfl, rfl⟩

theorem witness_StepRunsTheRowOfTheTransaction :
    sessionZ.resetDone = true ∧
    (presenting (.transact ⟨false, 0b1010, 0xDEADBEEF⟩) sessionZ).inputs = .transact ⟨false, 0b1010, 0xDEADBEEF⟩ :: [] :=
  ⟨rfl, rfl⟩

theorem witness_EveryTransactionCompletes : State.reset.resetDone = true := rfl

theorem witness_NothingPresentedChangesNothing : messageZ.inputs = [] := rfl

theorem witness_ResetOverridesEverything :
    (presenting (.reset (some (busWrite .dataB 0x41))) messageZ).inputs =
      .reset (some (busWrite .dataB 0x41)) :: [] := rfl

theorem witness_RegisterReadsAfterReset : isRead .rdStage = true ∧ Instr.rdStage ≠ .rdStatus := by decide

theorem witness_RunsBeforeTheFirstResetAreRefused :
    ({ presenting (.transact (busRead .status)) sessionZ with resetDone := false } : State).resetDone = false ∧
    (presenting (.transact (busRead .status)) sessionZ).inputs = .transact (busRead .status) :: [] := ⟨rfl, rfl⟩

/-- The invariants hold in Session Z with a message open and its first block in use. -/
theorem inv_messageZ (x : HostInput) :
    Inv { presenting x messageZ with S := messageZ.S.set 12 1, ks := blockZero, ksptr := 61 } where
  zeroOutsideSession := nofun
  constantsInSession := fun _ => ⟨rfl, rfl, rfl, rfl⟩
  messageInSession := fun _ => rfl
  noKeystreamOutsideMessage := nofun
  keyStagePadded := fun _ _ => by simp [presenting, messageZ, sessionZ, State.reset]
  nonceStagePadded := fun _ _ => by simp [presenting, messageZ, sessionZ, State.reset]
  wrapInSession := nofun
  resultDefined := Nat.zero_le 6
  errorRecorded := fun h => absurd rfl h
  pipelineIdle := rfl
  keystreamCurrent := by
    intro _ _
    show blockZero = keystreamBytes ((messageZ.S.set 12 1).set 12 ((messageZ.S.set 12 1)[12] - 1))
    have hS : (messageZ.S.set 12 1).set 12 ((messageZ.S.set 12 1)[12] - 1) = sessionZ.S := by decide +kernel
    rw [hS, test_keystream_zero]

/-- A data write that generates a block is the next step. -/
theorem witness_StepKeepsTheInvariants :
    ∃ s t : State, Inv s ∧ step s = .next t ∧ t.result = 0 ∧ t.S ≠ s.S :=
  ⟨_, _, inv_messageZ (.transact (busWrite .dataW 0)), rfl, rfl, by decide +kernel⟩

/-- A successful SESSION in an open session, with other key and nonce bytes staged. -/
theorem witness_CipherStateChangesOnlyAtCommits :
    ∃ t, step (presenting (.transact (busWrite .cmd 0x01)) (staged sessionZ)) = .next t ∧ t.result = 0 ∧
      t.S[4] ≠ sessionZ.S[4] ∧ t.S[13] ≠ sessionZ.S[13] := ⟨_, rfl, rfl, by decide +kernel, by decide +kernel⟩

/-- An instruction that reports, one that raises, and one that does not report. -/
theorem witness_ResultIsWrittenByCmdAndDataWritesOnly :
    (∃ t, exec .nop State.reset = .next t ∧ reportsResult .nop = true ∧ t.result = 0) ∧
    (∃ t, exec .start State.reset = .next t ∧ reportsResult .start = true ∧ t.result = 3) ∧
    (∃ t, exec (.wrKeyIn 1) State.reset = .next t ∧ reportsResult (.wrKeyIn 1) = false) :=
  ⟨⟨_, rfl, rfl, rfl⟩, ⟨_, rfl, rfl, rfl⟩, ⟨_, rfl, rfl⟩⟩

/-- An error that clears a stage, and one that clears none. -/
theorem witness_ErrorsArePrecise :
    (∃ t, exec .rekey (staged State.reset) = .next t ∧ reportsResult .rekey = true ∧ t.result ≠ 0) ∧
    (∃ t, exec (.wrDataB 0) sessionZ = .next t ∧ reportsResult (.wrDataB 0) = true ∧ t.result ≠ 0) :=
  ⟨⟨_, rfl, rfl, by decide⟩, ⟨_, rfl, rfl, by decide⟩⟩

/-- The counter is set, and it is advanced. -/
theorem witness_BlockCounterWriters :
    (∃ t, exec .start { sessionZ with S := sessionZ.S.set 12 5 } = .next t ∧ t.S[12] = 0 ∧ t.result = 0) ∧
    (∃ t, exec (.wrDataB 0) messageZ = .next t ∧ t.S[12] = 1 ∧ t.result = 0) :=
  ⟨⟨_, rfl, rfl, rfl⟩, ⟨_, rfl, by decide +kernel, rfl⟩⟩

theorem witness_SessionAndMessageFlagWriters :
    (∃ t, exec .session (staged State.reset) = .next t ∧ t.sess = true) ∧
    (∃ t, exec .clear messageZ = .next t ∧ t.sess = false ∧ t.msg = false) ∧
    (∃ t, exec .start sessionZ = .next t ∧ t.msg = true) ∧ (∃ t, exec .endMsg messageZ = .next t ∧ t.msg = false) :=
  ⟨⟨_, rfl, rfl⟩, ⟨_, rfl, rfl, rfl⟩, ⟨_, rfl, rfl⟩, ⟨_, rfl, rfl⟩⟩

theorem witness_WrapFlagWriters :
    (∃ t, exec (.wrDataB 0) lastBlockZ = .next t ∧ t.ctrwrap = true ∧ lastBlockZ.ctrwrap = false) ∧
    (∃ t, exec .start (wrappedZ true) = .next t ∧ t.ctrwrap = false) :=
  ⟨⟨_, rfl, by decide +kernel, rfl⟩, ⟨_, rfl, rfl⟩⟩

theorem witness_ControlAndOutputWriters :
    (∃ t, exec (.wrCtrl 1) State.reset = .next t ∧ t.ovffail = true) ∧
    (∃ t, exec .clear (wrappedZ true) = .next t ∧ t.dout = 0) := ⟨⟨_, rfl, rfl⟩, ⟨_, rfl, rfl⟩⟩

theorem witness_StatusRegisterLayout : State.reset = State.reset ∧ (wrappedZ true).ksptr = 61 := ⟨rfl, rfl⟩

theorem witness_ReadsAreIdempotent : isRead .rdDout = true ∧ isRead .rdStatus = true := ⟨rfl, rfl⟩

/-- Two sessions that differ in a key word and in a staged byte only. -/
theorem witness_ReadsShowNoSecret :
    let t : State := { sessionZ with S := sessionZ.S.set 4 0x01234567, keybuf := sessionZ.keybuf.set 0 1 }
    isRead .rdCtr = true ∧ LookAlike sessionZ t ∧ (∃ s1, exec .rdCtr sessionZ = .next s1) ∧
      ∃ t1, exec .rdCtr t = .next t1 :=
  ⟨rfl, ⟨rfl, rfl, rfl, rfl, rfl, rfl, rfl, rfl, rfl, rfl, rfl⟩, ⟨_, rfl⟩, ⟨_, rfl⟩⟩

/-- Each clause at the edges of its range. -/
theorem witness_KeyInAppendsOneByte :
    let at_ (c : BitVec 6) : State := { State.reset with keycnt := c }
    (at_ 0).keycnt.toNat = (0 : Fin 32).val ∧ (at_ 31).keycnt.toNat = (31 : Fin 32).val ∧
    (32 ≤ (at_ 32).keycnt.toNat ∧ (at_ 32).keycnt.toNat ≤ 62) ∧
    (32 ≤ (at_ 62).keycnt.toNat ∧ (at_ 62).keycnt.toNat ≤ 62) ∧ (at_ 63).keycnt.toNat = 63 := by decide

/-- Each clause at the edges of its range. -/
theorem witness_NonceInAppendsOneByte :
    let at_ (c : BitVec 6) : State := { State.reset with noncecnt := c }
    (at_ 0).noncecnt.toNat = (0 : Fin 12).val ∧ (at_ 11).noncecnt.toNat = (11 : Fin 12).val ∧
    (12 ≤ (at_ 12).noncecnt.toNat ∧ (at_ 12).noncecnt.toNat ≤ 62) ∧
    (12 ≤ (at_ 62).noncecnt.toNat ∧ (at_ 62).noncecnt.toNat ≤ 62) ∧ (at_ 63).noncecnt.toNat = 63 := by decide

theorem witness_StagedBytesAreTheFirstWritten :
    State.reset.keycnt = 0 ∧ State.reset.keybuf = Vector.replicate 32 0 ∧ State.reset.noncecnt = 0 ∧
    State.reset.noncebuf = Vector.replicate 12 0 := ⟨rfl, rfl, rfl, rfl⟩

/-- The three cases, the counts one off on either side. -/
theorem witness_SessionOutcomes :
    (31 : BitVec 6) ≠ 32 ∧ (33 : BitVec 6) ≠ 32 ∧ (11 : BitVec 6) ≠ 12 ∧ (13 : BitVec 6) ≠ 12 ∧
    (staged State.reset).keycnt = 32 ∧ (staged State.reset).noncecnt = 12 := by decide

theorem witness_RekeyOutcomes :
    State.reset.sess = false ∧ (sessionZ.sess = true ∧ sessionZ.keycnt ≠ 32) ∧
    ((staged sessionZ).sess = true ∧ (staged sessionZ).keycnt = 32 ∧ ConstantsInSession (staged sessionZ)) :=
  ⟨rfl, ⟨rfl, by decide⟩, rfl, rfl, fun _ => ⟨rfl, rfl, rfl, rfl⟩⟩

theorem witness_RenonceOutcomes :
    State.reset.sess = false ∧ (sessionZ.sess = true ∧ sessionZ.noncecnt ≠ 12) ∧
    ((staged sessionZ).sess = true ∧ (staged sessionZ).noncecnt = 12 ∧ ConstantsInSession (staged sessionZ)) :=
  ⟨rfl, ⟨rfl, by decide⟩, rfl, rfl, fun _ => ⟨rfl, rfl, rfl, rfl⟩⟩

theorem witness_QuarterRoundSteps : [(0 : Fin 16), 4, 8, 12].Nodup ∧ (1 : Fin 16) ∉ [(0 : Fin 16), 4, 8, 12] := by decide

theorem witness_DisjointQuarterRoundsCommute : [(0 : Fin 16), 4, 8, 12, 1, 5, 9, 13].Nodup := by decide

theorem witness_PermuteIsBijective :
    [(0 : Fin 16), 4, 12].Nodup ∧ 16 ∈ [16, 12, 8, 7] ∧ 7 ∈ [16, 12, 8, 7] ∧ [(3 : Fin 16), 4, 9, 14].Nodup := by decide

theorem witness_PipelineRefinesGenBlock : 0 ≤ 20 ∧ 20 ≤ 20 := by decide

theorem witness_StartAndEnd :
    State.reset.sess = false ∧ sessionZ.sess = true ∧ (sessionZ.msg = false ∧ NoKeystreamOutsideMessage sessionZ) :=
  ⟨rfl, rfl, rfl, fun _ => ⟨rfl, rfl⟩⟩

/-- Each case, with KSPTR at 0, 63 and 64. -/
theorem witness_DataByteOutcomes :
    sessionZ.msg = false ∧
    (let s : State := { wrappedZ true with ksptr := 64 }
     s.msg = true ∧ s.ksptr = 64 ∧ s.ctrwrap = true ∧ s.ovffail = true) ∧
    (let s : State := { messageZ with ksptr := 0 }
     s.msg = true ∧ s.ksptr = (0 : Fin 64).castSucc) ∧
    (let s : State := { messageZ with ksptr := 63 }
     s.msg = true ∧ s.ksptr = (63 : Fin 64).castSucc) ∧
    (messageZ.msg = true ∧ messageZ.ksptr = 64 ∧ messageZ.ctrwrap = false) ∧
    (let s : State := { wrappedZ false with ksptr := 64 }
     s.msg = true ∧ s.ksptr = 64 ∧ s.ovffail = false) := by decide

/-- Each case, with KSPTR at 0, 60, 61 and 64. -/
theorem witness_DataWordOutcomes :
    sessionZ.msg = false ∧
    ((wrappedZ true).msg = true ∧ 60 < (wrappedZ true).ksptr.val ∧ (wrappedZ true).ctrwrap = true ∧
      (wrappedZ true).ovffail = true) ∧
    (let s : State := { wrappedZ true with ksptr := 60 }
     s.msg = true ∧ s.ksptr.val ≤ 60) ∧
    (let s : State := { messageZ with ksptr := 0 }
     s.msg = true ∧ s.ksptr.val ≤ 60) ∧
    ((wrappedZ false).msg = true ∧ 60 < (wrappedZ false).ksptr.val ∧ (wrappedZ false).ovffail = false) ∧
    (messageZ.msg = true ∧ 60 < messageZ.ksptr.val ∧ messageZ.ctrwrap = false) := by decide

theorem witness_DataWordIsFourDataBytes :
    (wrappedZ false).msg = true ∧
    ¬ (60 < (wrappedZ false).ksptr.val ∧ (wrappedZ false).ctrwrap = true ∧ (wrappedZ false).ovffail = true) := by decide

theorem witness_DataWritesCannotFailWhenWrapping : (wrappedZ false).msg = true ∧ (wrappedZ false).ovffail = false :=
  ⟨rfl, rfl⟩

/-- A wrapped message with three bytes left, and one with none left; `v` with bit 0 set and clear. -/
theorem witness_OverflowPolicyTakesEffectAtTheNextBlock :
    ((wrappedZ false).msg = true ∧ (wrappedZ false).ctrwrap = true ∧ 60 < (wrappedZ false).ksptr.val) ∧
    (let s : State := { wrappedZ false with ksptr := 64 }
     s.msg = true ∧ s.ctrwrap = true ∧ s.ksptr = 64) ∧
    (1 : Word).getLsbD 0 = true ∧ (0xFFFFFFFE : Word).getLsbD 0 = false := by decide

/-- Session Z, in the middle of another message; the two sides of the bound. -/
theorem witness_TransformXorsTheKeystream_TransformTwiceGivesTheDataBack :
    let s : State := { messageZ with S := messageZ.S.set 12 3, ksptr := 7 }
    s.resetDone = true ∧ s.sess = true ∧ s.S.set 12 0 = buildState (Vector.replicate 32 0) (Vector.replicate 12 0) ∧
    s.ovffail = false ∧ (streamOf [.byte 0x48, .word 0x44434241]).length ≤ 2 ^ 38 ∧
    ([0x48, 0x65] : List Byte).length ≤ 2 ^ 38 := by decide +kernel

/-- Session Z, fresh and in the middle of another message; three shared bytes, split in two ways, with different bytes
after them; OVFFAIL = 0, a message within the bound, and a prefix within it. -/
theorem witness_OutputDependsOnThePrefixOnly :
    let s1 : State := { sessionZ with ovffail := true }
    let s2 : State := { messageZ with S := messageZ.S.set 12 3, ksptr := 7 }
    let ws1 : List DataWrite := [.byte 0x41, .byte 0x42, .byte 0x43]
    let ws2 : List DataWrite := [.word 0x44434241, .byte 0x45]
    s1.resetDone = true ∧ s2.resetDone = true ∧ s1.sess = true ∧ s2.sess = true ∧
    s1.S.set 12 0 = s2.S.set 12 0 ∧ (streamOf ws1).take 3 = (streamOf ws2).take 3 ∧
    (s1.ovffail = true ∧ (streamOf ws1).length ≤ 2 ^ 38) ∧ s2.ovffail = false ∧ 3 + 3 ≤ 2 ^ 38 := by decide +kernel

/-- A message of five bytes, and one of none. -/
theorem witness_CounterAfterAMessage :
    sessionZ.resetDone = true ∧ sessionZ.sess = true ∧
    ((streamOf [.byte 0x48, .word 0x44434241]).length ≤ 64 * (2 ^ 32 - 1) ∧
      [DataWrite.byte 0x48, .word 0x44434241] ≠ []) ∧
    ((streamOf []).length ≤ 64 * (2 ^ 32 - 1) ∧ ([] : List DataWrite) = []) := by decide +kernel

theorem witness_RotationMovesEveryBit : 0 < 1 ∧ 31 < 32 ∧ 0 < 32 ∧ 31 < 32 := by decide

theorem witness_PermuteIsTenDoubleRounds : 1 % 2 = 1 ∧ 20 % 2 = 0 := by decide

/-- A data write that is held, and one that is not. -/
theorem witness_HoldsOnlyWhileABlockIsComputed :
    (∃ t, exec (.wrDataB 0) messageZ = .next t ∧ holdsForBlock (.wrDataB 0) messageZ = true) ∧
    (∃ t, exec (.wrDataW 0) (wrappedZ true) = .next t ∧ holdsForBlock (.wrDataW 0) (wrappedZ true) = false) :=
  ⟨⟨_, rfl, rfl⟩, ⟨_, rfl, rfl⟩⟩

end Sys2Proof.Tests
end

/-! PROOFS. The dispatch of a CMD write and the command words no command has (`30_encoding.md` R72, R74, R75). -/

namespace Sys2Proof.Proofs
open Sys2Proof.Machine Sys2Proof.Laws

/-! ### What a CMD row does -/

/-- The CMD row of a command ends as a write does, also where it raises an error (R211, D2). -/
theorem exec_ofCommand_completes (k : Command) (s : State) :
    ∃ t, exec (Instr.ofCommand k) s = .next t ∧ t.bus = .writeDone := by
  cases k with
  | session => obtain ⟨-, h⟩ | ⟨-, -, h⟩ | ⟨-, -, h⟩ := exec_session_cases s <;> exact ⟨_, h, rfl⟩
  | rekey => obtain ⟨-, h⟩ | ⟨-, -, h⟩ | ⟨-, -, h⟩ := exec_rekey_cases s <;> exact ⟨_, h, rfl⟩
  | renonce => obtain ⟨-, h⟩ | ⟨-, -, h⟩ | ⟨-, -, h⟩ := exec_renonce_cases s <;> exact ⟨_, h, rfl⟩
  | start => obtain ⟨-, h⟩ | ⟨-, h⟩ := exec_start_cases s <;> exact ⟨_, h, rfl⟩
  | nop | endMsg | clrstage | clear | clrerr => exact ⟨_, rfl, rfl⟩

/-- ILLEGAL_CMD raises IllegalCommand, and nothing else changes but the port. -/
theorem exec_illegalCmd (c : Word) (s : State) :
    exec (.illegalCmd c) s = .next { s with result := 6, errf := true, bus := .writeDone } := rfl

/-- The CMD row of any word completes. -/
theorem exec_decodeCommandWord_completes (c : Word) (s : State) :
    ∃ t, exec (decodeCommandWord c) s = .next t ∧ t.bus = .writeDone := by
  obtain ⟨k, -, hk⟩ | hi := command_or_illegal c
  · rw [hk]
    exact exec_ofCommand_completes k s
  · rw [hi]
    exact ⟨_, exec_illegalCmd c s, rfl⟩

/-! ### What a CMD write does -/

theorem exec_wrCmd_word (k : Command) (s : State) : exec (.wrCmd k.word) s = exec (Instr.ofCommand k) s := by
  rw [exec_wrCmd, decodeCommandWord_word]

/-- A word with a reserved field has the row ILLEGAL_CMD. -/
theorem decodeCommandWord_of_reserved {c : Word} (h : c.extractLsb' 8 24 ≠ 0 ∨ 0x09 ≤ (c.extractLsb' 0 8).toNat) :
    decodeCommandWord c = .illegalCmd c :=
  decodeCommandWord_illegal ((decodeCommand_none_iff c).mpr h)

theorem exec_wrCmd_of_reserved {c : Word} (s : State)
    (h : c.extractLsb' 8 24 ≠ 0 ∨ 0x09 ≤ (c.extractLsb' 0 8).toNat) :
    exec (.wrCmd c) s = exec (.illegalCmd c) s := by
  rw [exec_wrCmd, decodeCommandWord_of_reserved h]

/-- Settles O4: a CMD write is the row of its word, and every such row completes. -/
theorem cmdWriteDispatches : Obligations.CmdWriteDispatches := by
  intro s
  refine ⟨exec_wrCmd_word .nop s, exec_wrCmd_word .session s, exec_wrCmd_word .rekey s, exec_wrCmd_word .renonce s,
    exec_wrCmd_word .start s, exec_wrCmd_word .endMsg s, exec_wrCmd_word .clrstage s, exec_wrCmd_word .clear s,
    exec_wrCmd_word .clrerr s, fun _ h => exec_wrCmd_of_reserved s h, fun c => ?_⟩
  obtain ⟨t, ht, -⟩ := exec_decodeCommandWord_completes c s
  exact ⟨t, (exec_wrCmd c s).trans ht, ht⟩

/-- Settles O22: a word with a reserved field decodes to ILLEGAL_CMD, and a CMD write of it is that row. -/
theorem illegalCommandWords : Obligations.IllegalCommandWords := fun c s h =>
  ⟨decodeCommandWord_of_reserved h, exec_illegalCmd c s, (exec_wrCmd_of_reserved s h).trans (exec_illegalCmd c s)⟩

end Sys2Proof.Proofs

/-! PROOFS. The state initializer (`40_state_builder.md`): the words of BuildState, the staging writes, the outcomes of
the commit commands, and which steps write the key, nonce and constant words (R100 to R102, R105 to R107, R112). -/

namespace Sys2Proof.Proofs
open Sys2Proof.Machine Sys2Proof.Laws

/-! ### The words of BuildState (R102) -/

/-- Byte `j` of four packed bytes is the `j`-th of them (R12). -/
theorem byteOf_le32 (b : Fin 4 → Byte) (j : Fin 4) : byteOf (le32 (b 0) (b 1) (b 2) (b 3)) j.val = b j := by
  fin_cases j
  · exact byteOf_le32_zero _ _ _ _
  · exact byteOf_le32_one _ _ _ _
  · exact byteOf_le32_two _ _ _ _
  · exact byteOf_le32_three _ _ _ _

theorem byteOf_keyWord (k : Vector Byte 32) (i : Fin 8) (j : Fin 4) :
    byteOf (keyWord k i) j.val = k[4 * i.val + j.val] :=
  byteOf_le32 (fun j => k[4 * i.val + j.val]) j

theorem byteOf_nonceWord (n : Vector Byte 12) (i : Fin 3) (j : Fin 4) :
    byteOf (nonceWord n i) j.val = n[4 * i.val + j.val] :=
  byteOf_le32 (fun j => n[4 * i.val + j.val]) j

theorem buildState_keyWord (k : Vector Byte 32) (n : Vector Byte 12) (i : Fin 8) :
    (buildState k n)[4 + i.val] = keyWord k i := by
  fin_cases i <;> rfl

theorem buildState_nonceWord (k : Vector Byte 32) (n : Vector Byte 12) (i : Fin 3) :
    (buildState k n)[13 + i.val] = nonceWord n i := by
  fin_cases i <;> rfl

/-- A rebuilt state has the constant words of the session it replaces (R21, R25 b). -/
theorem buildState_constants {s : State} (hs : s.sess = true) (hc : ConstantsInSession s) (k : Vector Byte 32)
    (n : Vector Byte 12) (j : Fin 4) : (buildState k n)[j.val] = s.S[j.val] := by
  obtain ⟨h0, h1, h2, h3⟩ := hc hs
  fin_cases j
  · exact h0.symm
  · exact h1.symm
  · exact h2.symm
  · exact h3.symm

/-- A state rebuilt with its own nonce keeps its nonce words (R106). -/
theorem buildState_nonceBytesOf_nonce (k : Vector Byte 32) (S : Vector Word 16) (j : Fin 3) :
    (buildState k (nonceBytesOf S))[13 + j.val] = S[13 + j.val] := by
  rw [buildState_nonceBytesOf]
  fin_cases j <;> rfl

/-- A state rebuilt with its own key keeps its key words (R107). -/
theorem buildState_keyBytesOf_key (n : Vector Byte 12) (S : Vector Word 16) (j : Fin 8) :
    (buildState (keyBytesOf S) n)[4 + j.val] = S[4 + j.val] := by
  rw [buildState_keyBytesOf]
  fin_cases j <;> rfl

/-- Settles O31: the constant words by computation, the key and nonce words byte by byte from `le32`. -/
theorem buildStateWords : Obligations.BuildStateWords := by
  intro k n
  refine ⟨rfl, rfl, rfl, rfl, rfl, fun i j => ?_, fun i j => ?_⟩
  · rw [buildState_keyWord, byteOf_keyWord]
  · rw [buildState_nonceWord, byteOf_nonceWord]

/-! ### Staging writes (R100, R101) -/

theorem countUp_of_lt {c : BitVec 6} (h : c.toNat < 63) : countUp c = c + 1 :=
  if_neg fun h63 => absurd (congrArg BitVec.toNat h63) (Nat.ne_of_lt h)

theorem countUp_of_saturated {c : BitVec 6} (h : c.toNat = 63) : countUp c = c := by
  have hc : c = 63 := BitVec.eq_of_toNat_eq h
  rw [hc]
  rfl

/-- While the key stage has room, a KEY_IN write stores its byte at the count. -/
theorem exec_wrKeyIn_of_room (w : Word) (s : State) (i : Fin 32) (h : s.keycnt.toNat = i.val) :
    exec (.wrKeyIn w) s =
      .next { s with keybuf := s.keybuf.set i (byteOperand w), keycnt := countUp s.keycnt, bus := .writeDone } := by
  show execWrKeyIn w s = _
  simp [execWrKeyIn, finishWrite, h]

/-- With the key stage full, a KEY_IN write only counts. -/
theorem exec_wrKeyIn_of_full (w : Word) (s : State) (h : 32 ≤ s.keycnt.toNat) :
    exec (.wrKeyIn w) s = .next { s with keycnt := countUp s.keycnt, bus := .writeDone } := by
  show execWrKeyIn w s = _
  simp [execWrKeyIn, finishWrite, Nat.not_lt.mpr h]

/-- While the nonce stage has room, a NONCE_IN write stores its byte at the count. -/
theorem exec_wrNonceIn_of_room (w : Word) (s : State) (i : Fin 12) (h : s.noncecnt.toNat = i.val) :
    exec (.wrNonceIn w) s =
      .next { s with noncebuf := s.noncebuf.set i (byteOperand w), noncecnt := countUp s.noncecnt
                     bus := .writeDone } := by
  show execWrNonceIn w s = _
  simp [execWrNonceIn, finishWrite, h]

/-- With the nonce stage full, a NONCE_IN write only counts. -/
theorem exec_wrNonceIn_of_full (w : Word) (s : State) (h : 12 ≤ s.noncecnt.toNat) :
    exec (.wrNonceIn w) s = .next { s with noncecnt := countUp s.noncecnt, bus := .writeDone } := by
  show execWrNonceIn w s = _
  simp [execWrNonceIn, finishWrite, Nat.not_lt.mpr h]

/-- Settles O32: the stage has room below 32, is full from there on, and the count saturates at 63. -/
theorem keyInAppendsOneByte : Obligations.KeyInAppendsOneByte := by
  refine ⟨fun _ => rfl, fun w s i h => ?_, fun w s h32 h62 => ?_, fun w s h63 => ?_⟩
  · rw [exec_wrKeyIn_of_room w s i h, countUp_of_lt (by omega)]
    rfl
  · rw [exec_wrKeyIn_of_full w s h32, countUp_of_lt (by omega)]
  · rw [exec_wrKeyIn_of_full w s (by omega), countUp_of_saturated h63]

/-- Settles O33: the stage has room below 12, is full from there on, and the count saturates at 63. -/
theorem nonceInAppendsOneByte : Obligations.NonceInAppendsOneByte := by
  refine ⟨fun _ => rfl, fun w s i h => ?_, fun w s h12 h62 => ?_, fun w s h63 => ?_⟩
  · rw [exec_wrNonceIn_of_room w s i h, countUp_of_lt (by omega)]
    rfl
  · rw [exec_wrNonceIn_of_full w s h12, countUp_of_lt (by omega)]
  · rw [exec_wrNonceIn_of_full w s (by omega), countUp_of_saturated h63]

/-! ### Commit commands (R105 to R107) -/

/-- Settles O35: the outcomes of SESSION, the key length checked first. -/
theorem sessionOutcomes : Obligations.SessionOutcomes :=
  ⟨rfl, fun s => ⟨execSession_of_wrong_key s, execSession_of_wrong_nonce s, execSession_of_right_lengths s⟩⟩

/-- Settles O36: the outcomes of REKEY; its own nonce bytes give back the nonce words. -/
theorem rekeyOutcomes : Obligations.RekeyOutcomes := by
  refine ⟨rfl, fun s => ⟨execRekey_of_no_session s, execRekey_of_wrong_key s, fun hs hk => ?_, fun hs hk hc => ?_⟩⟩
  · rw [← buildState_nonceBytesOf]
    exact execRekey_of_right_length s hs hk
  · exact ⟨_, execRekey_of_right_length s hs hk, buildState_constants hs hc _ _⟩

/-- Settles O37: the outcomes of RENONCE; its own key bytes give back the key words. -/
theorem renonceOutcomes : Obligations.RenonceOutcomes := by
  refine ⟨rfl, fun s => ⟨execRenonce_of_no_session s, execRenonce_of_wrong_nonce s, fun hs hn => ?_,
    fun hs hn hc => ?_⟩⟩
  · rw [← buildState_keyBytesOf]
    exact execRenonce_of_right_length s hs hn
  · exact ⟨_, execRenonce_of_right_length s hs hn, buildState_constants hs hc _ _⟩

/-! ### What writes the cipher state (R112) -/

/-- The cipher state that a command which succeeds puts in the place of the old one: the commit commands and CLEAR. -/
inductive Replaces (s : State) : Command → Vector Word 16 → Prop
  | session : Replaces s .session (buildState s.keybuf s.noncebuf)
  | rekey (hs : s.sess = true) : Replaces s .rekey (buildState s.keybuf (nonceBytesOf s.S))
  | renonce (hs : s.sess = true) : Replaces s .renonce (buildState (keyBytesOf s.S) s.noncebuf)
  | clear : Replaces s .clear (Vector.replicate 16 0)

/-- Taking an input from the port changes nothing that a replacement is made from. -/
theorem Replaces.of_takeInput {s : State} {k : Command} {S : Vector Word 16} :
    Replaces (takeInput s) k S → Replaces s k S
  | .session => .session
  | .rekey hs => .rekey hs
  | .renonce hs => .renonce hs
  | .clear => .clear

/-- What a replacement keeps. SESSION takes key and nonce from the stages, REKEY only the key and RENONCE only the
nonce; a commit command writes the constants of R21, which a session has already (R25 b). -/
theorem Replaces.keeps {s : State} {k : Command} {S : Vector Word 16} (h : Replaces s k S)
    (hc : ConstantsInSession s) :
    k = .clear ∨
    (((∀ j : Fin 8, S[4 + j.val] = s.S[4 + j.val]) ∨ k = .session ∨ k = .rekey) ∧
     ((∀ j : Fin 3, S[13 + j.val] = s.S[13 + j.val]) ∨ k = .session ∨ k = .renonce) ∧
     ((∀ j : Fin 4, S[j.val] = s.S[j.val]) ∨ (k = .session ∧ s.sess = false))) := by
  cases h with
  | session =>
    refine .inr ⟨.inr (.inl rfl), .inr (.inl rfl), ?_⟩
    cases hs : s.sess with
    | false => exact .inr ⟨rfl, rfl⟩
    | true => exact .inl (buildState_constants hs hc _ _)
  | rekey hs =>
    exact .inr ⟨.inr (.inr rfl), .inl (buildState_nonceBytesOf_nonce _ _), .inl (buildState_constants hs hc _ _)⟩
  | renonce hs =>
    exact .inr ⟨.inl (buildState_keyBytesOf_key _ _), .inr (.inr rfl), .inl (buildState_constants hs hc _ _)⟩
  | clear => exact .inl rfl

/-- The cipher states agree in every word but the block counter. -/
def SameButCounter (S T : Vector Word 16) : Prop := ∃ c, T = S.set 12 c

theorem SameButCounter.refl (S : Vector Word 16) : SameButCounter S S := ⟨S[12], (Vector.set_getElem_self _).symm⟩

theorem SameButCounter.get {S T : Vector Word 16} (h : SameButCounter S T) {i : Nat} (hi : i < 16) (h12 : i ≠ 12) :
    T[i] = S[i] := by
  obtain ⟨c, rfl⟩ := h
  exact Vector.getElem_set_ne _ _ h12.symm

/-- The row of a command replaces the cipher state, with success, or writes at most the block counter. -/
theorem exec_ofCommand_S (k : Command) {s t : State} (h : exec (Instr.ofCommand k) s = .next t) :
    SameButCounter s.S t.S ∨ (t.result = 0 ∧ Replaces s k t.S) := by
  cases k with
  | session =>
    obtain ⟨-, e⟩ | ⟨-, -, e⟩ | ⟨-, -, e⟩ := exec_session_cases s <;> cases e.symm.trans h
    · exact .inl (.refl _)
    · exact .inl (.refl _)
    · exact .inr ⟨rfl, .session⟩
  | rekey =>
    obtain ⟨-, e⟩ | ⟨-, -, e⟩ | ⟨hs, -, e⟩ := exec_rekey_cases s <;> cases e.symm.trans h
    · exact .inl (.refl _)
    · exact .inl (.refl _)
    · exact .inr ⟨rfl, .rekey hs⟩
  | renonce =>
    obtain ⟨-, e⟩ | ⟨-, -, e⟩ | ⟨hs, -, e⟩ := exec_renonce_cases s <;> cases e.symm.trans h
    · exact .inl (.refl _)
    · exact .inl (.refl _)
    · exact .inr ⟨rfl, .renonce hs⟩
  | start =>
    obtain ⟨-, e⟩ | ⟨-, e⟩ := exec_start_cases s <;> cases e.symm.trans h
    · exact .inl (.refl _)
    · exact .inl ⟨0, rfl⟩
  | clear =>
    cases h
    exact .inr ⟨rfl, .clear⟩
  | nop | endMsg | clrstage | clrerr =>
    cases h
    exact .inl (.refl _)

/-- A CMD write replaces the cipher state only where its word is that of a command which does. -/
theorem exec_wrCmd_S (c : Word) {s t : State} (h : exec (.wrCmd c) s = .next t) :
    SameButCounter s.S t.S ∨ ∃ k : Command, c = k.word ∧ t.result = 0 ∧ Replaces s k t.S := by
  rw [exec_wrCmd] at h
  obtain ⟨k, hc, hk⟩ | hi := command_or_illegal c
  · rw [hk] at h
    exact (exec_ofCommand_S k h).imp_right fun hr => ⟨k, hc, hr⟩
  · rw [hi] at h
    cases h
    exact .inl (.refl _)

theorem exec_decodeRead_S (r : Reg) {s t : State} (h : exec (decodeRead r) s = .next t) : t.S = s.S := by
  cases r <;> cases h <;> rfl

/-- Of the register writes other than CMD, the data writes advance the block counter and the others leave S alone. -/
theorem exec_decodeWrite_S {r : Reg} (hr : r ≠ .cmd) (w : Word) {s t : State}
    (h : exec (decodeWrite r w) s = .next t) : SameButCounter s.S t.S := by
  cases r with
  | cmd => exact absurd rfl hr
  | dataB =>
    obtain ⟨-, e⟩ | ⟨-, -, -, e⟩ | ⟨-, _, e⟩ | ⟨-, -, -, e⟩ := exec_wrDataB_cases w s <;> cases e.symm.trans h
    · exact .refl _
    · exact .refl _
    · exact .refl _
    · exact ⟨_, rfl⟩
  | dataW =>
    obtain ⟨-, e⟩ | ⟨-, -, -, e⟩ | ⟨-, _, e⟩ | ⟨-, -, _, e⟩ := exec_wrDataW_cases w s <;> cases e.symm.trans h
    · exact .refl _
    · exact .refl _
    · exact .refl _
    · exact ⟨_, rfl⟩
  | ctrl | status | ctr | keyIn | nonceIn | stage | rsv1C | dout | rsv2C | rsv30 | rsv34 | rsv38 | rsv3C =>
    cases h
    exact .refl _

/-- Every transaction runs the row of a read of a register, or is a write to one. -/
theorem decodeRead_or_busWrite (tr : Transaction) :
    (∃ r, decodeTransaction tr = decodeRead r) ∨ ∃ r w, tr = busWrite r w := by
  obtain ⟨_ | _, a, w⟩ := tr
  · exact .inl ⟨Reg.ofIndex a, rfl⟩
  · exact .inr ⟨Reg.ofIndex a, w, by rw [busWrite, index_ofIndex]⟩

/-- A transaction writes at most the block counter, or it is the CMD write of a command that replaces the cipher
state. -/
theorem exec_decodeTransaction_S {tr : Transaction} {s t : State} (h : exec (decodeTransaction tr) s = .next t) :
    SameButCounter s.S t.S ∨ ∃ k : Command, tr = busWrite .cmd k.word ∧ t.result = 0 ∧ Replaces s k t.S := by
  obtain ⟨r, hr⟩ | ⟨r, w, rfl⟩ := decodeRead_or_busWrite tr
  · rw [hr] at h
    rw [exec_decodeRead_S r h]
    exact .inl (.refl _)
  · rw [decodeTransaction_busWrite] at h
    by_cases hr : r = .cmd
    · subst hr
      exact (exec_wrCmd_S w h).imp_right fun ⟨k, hw, hk⟩ => ⟨k, by rw [hw], hk⟩
    · exact .inl (exec_decodeWrite_S hr w h)

/-- A step replaces the cipher state by a reset or by the CMD write of a command that does; any other step writes at
most the block counter. -/
theorem step_S {s t : State} (h : step s = .next t) :
    (∃ held, s.inputs.head? = some (.reset held)) ∨ SameButCounter s.S t.S ∨
      ∃ k : Command, s.inputs.head? = some (.transact (busWrite .cmd k.word)) ∧ t.result = 0 ∧ Replaces s k t.S := by
  obtain ⟨-, rfl⟩ | ⟨held, rest, hi, -⟩ | ⟨tr, rest, hi, -, he⟩ := step_cases h
  · exact .inr (.inl (.refl _))
  · exact .inl ⟨held, by rw [hi, List.head?_cons]⟩
  · exact .inr ((exec_decodeTransaction_S he).imp_right fun ⟨k, htr, h0, hk⟩ =>
      ⟨k, by rw [hi, htr, List.head?_cons], h0, hk.of_takeInput⟩)

/-- Settles O16: SESSION, REKEY and RENONCE rebuild the state, each keeping the words it does not take from a stage;
the constant words are those of R21 already where there is a session (R25 b). -/
theorem cipherStateChangesOnlyAtCommits : Obligations.CipherStateChangesOnlyAtCommits := by
  intro s t hinv h
  obtain hreset | hsame | ⟨k, hi, h0, hk⟩ := step_S h
  · exact .inl hreset
  · exact .inr (.inr ⟨.inl fun j => hsame.get _ (by omega), .inl fun j => hsame.get _ (by omega),
      .inl fun j => hsame.get _ (by omega)⟩)
  · obtain hclear | ⟨hkey, hnonce, hconst⟩ := hk.keeps hinv.constantsInSession
    · exact .inr (.inl ⟨_, hi, h0, congrArg Command.word hclear⟩)
    · refine .inr (.inr ⟨hkey.imp_right fun hw => ⟨_, hi, h0, ?_⟩, hnonce.imp_right fun hw => ⟨_, hi, h0, ?_⟩,
        hconst.imp_right fun ⟨hw, hs⟩ => ⟨?_, h0, hs⟩⟩)
      · exact hw.imp (congrArg Command.word) (congrArg Command.word)
      · exact hw.imp (congrArg Command.word) (congrArg Command.word)
      · rw [hi, hw]
        rfl

end Sys2Proof.Proofs

/-! PROOFS. The block engine (`41_block_engine.md`): the steps of a quarter-round, the bijections of R143, Permute as
20 single rounds, the bytes of a block, and the reference micro-schedule (R131 to R137, R142, R143). -/

namespace Sys2Proof.Proofs
open Sys2Proof.Machine Sys2Proof.Laws

/-! ### The rounds of Permute (R134) -/

/-- The first `r` single rounds, in order. -/
def rounds (r : Nat) (X : Vector Word 16) : Vector Word 16 :=
  (List.range' 1 r).foldl (fun Y i => singleRound i Y) X

@[simp] theorem rounds_zero (X : Vector Word 16) : rounds 0 X = X := rfl

theorem rounds_succ (r : Nat) (X : Vector Word 16) : rounds (r + 1) X = singleRound (r + 1) (rounds r X) := by
  simp [rounds, List.range'_1_concat, Nat.add_comm 1 r]

theorem singleRound_of_odd {r : Nat} (h : r % 2 = 1) (X : Vector Word 16) : singleRound r X = columnRound X :=
  if_pos h

theorem singleRound_of_even {r : Nat} (h : r % 2 = 0) (X : Vector Word 16) : singleRound r X = diagonalRound X :=
  if_neg (by omega)

/-- Two single rounds from an even number on are a double round. -/
theorem rounds_two_mul (k : Nat) (X : Vector Word 16) : rounds (2 * k) X = doubleRound^[k] X := by
  induction k with
  | zero => rfl
  | succ k ih =>
    rw [Nat.mul_succ, rounds_succ, rounds_succ, ih, singleRound_of_even (by omega), singleRound_of_odd (by omega),
      Function.iterate_succ_apply', doubleRound]

theorem permute_eq_rounds (X : Vector Word 16) : permute X = rounds 20 X := (rounds_two_mul 10 X).symm

/-- Settles O56: twenty single rounds pair up into ten double rounds; the example word by computation. -/
theorem permuteIsTenDoubleRounds : Obligations.PermuteIsTenDoubleRounds :=
  ⟨fun _ => rfl, permute_eq_rounds, fun _ X => ⟨fun h => singleRound_of_odd h X, fun h => singleRound_of_even h X⟩,
    by decide +kernel⟩

/-! ### The reference micro-schedule (R142) -/

/-- After the load and `r` rounds, X holds `r` single rounds of the state and ROUND is `r`; nothing else is written. -/
theorem pipelineRound_iterate (s : State) (r : Nat) (hr : r ≤ 20) :
    pipelineRound^[r] (pipelineLoad s) = { s with X := rounds r s.S, round := ⟨r, by omega⟩ } := by
  induction r with
  | zero => rfl
  | succ r ih =>
    rw [Function.iterate_succ_apply', ih (by omega), pipelineRound, dif_pos (by simpa using hr), rounds_succ]

theorem pipelineRound_twenty (s : State) :
    pipelineRound^[20] (pipelineLoad s) = { s with X := permute s.S, round := 20 } := by
  rw [pipelineRound_iterate s 20 le_rfl, permute_eq_rounds]
  rfl

/-- Settles O43: after 20 rounds X holds the permuted state, and the last step makes of it what GenBlock makes. -/
theorem pipelineRefinesGenBlock : Obligations.PipelineRefinesGenBlock := by
  refine ⟨fun s r hr => ?_, fun s => ?_, fun s => ?_⟩
  · rw [pipelineRound_iterate s r hr]
  · rw [pipelineRound_twenty]
  · rw [pipelineRun, pipelineRound_twenty]
    simp only [pipelineFinish, genBlock, freeX, advanceCounter, keystreamBytes, block]

/-! ### The block and its bytes (R136, R137) -/

/-- Settles O42: slot `4i + j` of the serialization is byte `j` of word `i`. -/
theorem keystreamBytesLayout : Obligations.KeystreamBytesLayout := by
  refine fun S i => ⟨addWords_get _ _ _ i.isLt, fun j => ?_⟩
  have hword : (4 * i.val + j.val) / 4 = i.val := by omega
  have hbyte : (4 * i.val + j.val) % 4 = j.val := by omega
  simp only [keystreamBytes, serialize_get, hword, hbyte]
  rfl

/-! ### The steps of a quarter-round (R131) -/

section
variable {a d : Fin 16} (hda : d ≠ a) (b : Fin 16) (n : Nat) (X : Vector Word 16)
include hda

theorem addXorRotate_get_sum : (addXorRotate a b d n X)[a] = X[a] + X[b] := by
  rw [addXorRotate_get a b d n X a hda, if_neg hda.symm, if_pos rfl]

theorem addXorRotate_get_rotated : (addXorRotate a b d n X)[d] = rotl (X[d] ^^^ (X[a] + X[b])) n := by
  rw [addXorRotate_get a b d n X d hda, if_pos rfl]

theorem addXorRotate_get_other {i : Fin 16} (hia : i ≠ a) (hid : i ≠ d) : (addXorRotate a b d n X)[i] = X[i] := by
  rw [addXorRotate_get a b d n X i hda, if_neg hid, if_neg hia]

end

/-- Settles O39: each of the four slots is read back through the steps; no step writes another slot. -/
theorem quarterRoundSteps : Obligations.QuarterRoundSteps := by
  intro a b c d X h
  have hrev : [d, c, b, a].Nodup := List.nodup_reverse.mpr h
  simp only [List.nodup_cons, List.mem_cons, List.not_mem_nil, not_or, or_false] at h hrev
  refine ⟨?slotA, ?slotB, ?slotC, ?slotD, fun i hi => ?others⟩
  case slotA | slotB | slotC | slotD =>
    simp only [quarterRound, addXorRotate_get_sum, addXorRotate_get_rotated, addXorRotate_get_other, ne_eq,
      not_false_eq_true, h, hrev]
  case others =>
    simp only [List.mem_cons, List.not_mem_nil, not_or, or_false] at hi
    simp only [quarterRound, addXorRotate_get_other, ne_eq, not_false_eq_true, h, hrev, hi]

/-! ### Bijections (R143) -/

/-- Rotating on by the remaining distance undoes a rotation: the low bits come back from the shift to the right, the
others from the shift to the left. -/
theorem rotl_rotl_sub (v : Word) {n : Nat} (h : n < 32) : rotl (rotl v n) (32 - n) = v := by
  ext i hi
  have hn : 32 - (32 - n) = n := by omega
  have hbeyond : 32 ≤ 32 - n + (n + i) := by omega
  by_cases hlow : i < 32 - n
  · have hi' : n + i < 32 := by omega
    simp [rotl, hn, hlow, hi', BitVec.getLsbD_of_ge _ _ hbeyond]
  · have hi' : ¬ n + i < 32 := by omega
    have hshift : i - (32 - n) < n := by omega
    have hback : 32 - n + (i - (32 - n)) = i := by omega
    simp [rotl, hn, hlow, hi', hshift, hback, BitVec.getLsbD_of_ge _ _ hbeyond, BitVec.getLsbD_eq_getElem hi]

theorem rotl_injective {n : Nat} (h : n < 32) : Function.Injective (rotl · n) :=
  Function.LeftInverse.injective (g := (rotl · (32 - n))) fun v => rotl_rotl_sub v h

/-- Equal images have equal words in slot `d`, then in slot `a`, then everywhere. -/
theorem addXorRotate_injective {a b d : Fin 16} {n : Nat} (h : [a, b, d].Nodup) (hn : n < 32) :
    Function.Injective (addXorRotate a b d n) := by
  intro X Y hXY
  have hget (i : Fin 16) : (addXorRotate a b d n X)[i] = (addXorRotate a b d n Y)[i] := by rw [hXY]
  simp only [List.nodup_cons, List.mem_cons, List.not_mem_nil, not_or, or_false] at h
  obtain ⟨⟨hab, had⟩, hbd, -⟩ := h
  have hother {i : Fin 16} (hia : i ≠ a) (hid : i ≠ d) : X[i] = Y[i] := by
    simpa only [addXorRotate_get_other (Ne.symm had) b n _ hia hid] using hget i
  have hsum : X[a] + X[b] = Y[a] + Y[b] := by simpa only [addXorRotate_get_sum (Ne.symm had)] using hget a
  have hb : X[b] = Y[b] := hother (Ne.symm hab) hbd
  have ha : X[a] = Y[a] := by rwa [hb, BitVec.add_left_inj] at hsum
  have hd : X[d] = Y[d] := by
    have hrot := hget d
    rw [addXorRotate_get_rotated (Ne.symm had), addXorRotate_get_rotated (Ne.symm had), hsum] at hrot
    exact (BitVec.xor_left_inj _).mp (rotl_injective hn hrot)
  refine Vector.ext fun i hi => ?_
  by_cases hia : (⟨i, hi⟩ : Fin 16) = a
  · subst hia
    exact ha
  by_cases hid : (⟨i, hi⟩ : Fin 16) = d
  · subst hid
    exact hd
  exact hother hia hid

/-- The rotation distances of a quarter-round (R130). -/
theorem distance_lt : ∀ n ∈ [16, 12, 8, 7], n < 32 := by decide

/-- There are finitely many working buffers. -/
theorem finite_words : Finite (Vector Word 16) :=
  Finite.of_injective (fun X (i : Fin 16) => X[i]) fun _ _ h => Vector.ext fun i hi => congrFun h ⟨i, hi⟩

theorem addXorRotate_bijective {a b d : Fin 16} {n : Nat} (h : [a, b, d].Nodup) (hn : n < 32) :
    Function.Bijective (addXorRotate a b d n) :=
  haveI := finite_words
  Finite.injective_iff_bijective.mp (addXorRotate_injective h hn)

theorem bijective_comp_four {α : Type} {f₁ f₂ f₃ f₄ : α → α} (h₁ : Function.Bijective f₁)
    (h₂ : Function.Bijective f₂) (h₃ : Function.Bijective f₃) (h₄ : Function.Bijective f₄) :
    Function.Bijective fun x => f₄ (f₃ (f₂ (f₁ x))) :=
  h₄.comp (h₃.comp (h₂.comp h₁))

theorem quarterRound_bijective {a b c d : Fin 16} (h : [a, b, c, d].Nodup) :
    Function.Bijective (quarterRound a b c d) := by
  have habd : [a, b, d].Nodup := h.sublist (by simp)
  have hcdb : [c, d, b].Nodup := (List.perm_append_comm (l₁ := [c, d]) (l₂ := [b])).nodup_iff.mpr h.tail
  exact bijective_comp_four (addXorRotate_bijective habd (by decide)) (addXorRotate_bijective hcdb (by decide))
    (addXorRotate_bijective habd (by decide)) (addXorRotate_bijective hcdb (by decide))

theorem columnRound_bijective : Function.Bijective columnRound :=
  bijective_comp_four (quarterRound_bijective (by decide)) (quarterRound_bijective (by decide))
    (quarterRound_bijective (by decide)) (quarterRound_bijective (by decide))

theorem diagonalRound_bijective : Function.Bijective diagonalRound :=
  bijective_comp_four (quarterRound_bijective (by decide)) (quarterRound_bijective (by decide))
    (quarterRound_bijective (by decide)) (quarterRound_bijective (by decide))

/-- Settles O41: the steps are injective on a finite set, and the others are composed of them. -/
theorem permuteIsBijective : Obligations.PermuteIsBijective :=
  ⟨fun _ _ _ _ h hn => addXorRotate_bijective h (distance_lt _ hn), fun _ _ _ _ => quarterRound_bijective,
    columnRound_bijective, diagonalRound_bijective, (diagonalRound_bijective.comp columnRound_bijective).iterate 10⟩

end Sys2Proof.Proofs

/-! PROOFS. The keystream XOR combiner (`42_stream_cipher.md`): START, END and DATA_B whole, what a script's messages
read, and where the core stands after one (R161, R162, R164, R167, R169, R170). -/

namespace Sys2Proof.Proofs
open Sys2Proof.Machine Sys2Proof.Laws

/-! ### START and END (R161, R162) -/

theorem exec_endMsg (s : State) :
    exec .endMsg s =
      .next { s with msg := false, ksptr := 64, ks := Vector.replicate 64 0, result := 0, bus := .writeDone } := rfl

/-- Settles O44: the outcomes of START and of END; with no message open there is no keystream to discard. -/
theorem startAndEnd : Obligations.StartAndEnd := by
  refine ⟨rfl, rfl, rfl, rfl, fun s => ⟨execStart_of_no_session s, execStart_of_session s, exec_endMsg s,
    fun hm hinv => ?_⟩⟩
  obtain ⟨hp, hk⟩ := hinv hm
  rw [exec_endMsg, ← hm, ← hp, ← hk]

/-! ### DATA_B (R164) -/

theorem exec_wrDataB_of_partial (w : Word) (s : State) (i : Fin 64) (hm : s.msg = true) (hp : s.ksptr = i.castSucc) :
    exec (.wrDataB w) s =
      .next { s with ksptr := i.succ, dout := zext32 (byteOperand w ^^^ s.ks[i]), result := 0, bus := .writeDone } := by
  have hlt : s.ksptr.val < 64 := by simp [hp]
  show execWrDataB w s = _
  rw [execWrDataB_of_accepted w s hm (.inl hlt), xorByte_of_lt _ _ hlt]
  simp [finishWrite, ok, hp, Fin.succ]

theorem exec_wrDataB_of_full (w : Word) (s : State) (hm : s.msg = true) (hp : s.ksptr = 64)
    (ho : overflowRefused s = false) :
    exec (.wrDataB w) s =
      .next { genBlock s with ksptr := 1, dout := zext32 (byteOperand w ^^^ (keystreamBytes s.S)[0]), result := 0
                              bus := .writeDone } := by
  show execWrDataB w s = _
  rw [execWrDataB_of_accepted w s hm (.inr ho), xorByte_of_full _ _ hp]
  rfl

/-- A DATA_B write that generates a block is held for it (R252). -/
theorem busCycles_wrDataB_of_full (w : Word) (s : State) (hm : s.msg = true) (hp : s.ksptr = 64)
    (ho : overflowRefused s = false) : busCycles (.wrDataB w) s = Config.tBlock :=
  if_pos (by simp [holdsForBlock, byteRequestsBlock, hm, hp, ho])

/-- Settles O45: no message, a refused block request, a byte of the block at hand, the first byte of a new block. -/
theorem dataByteOutcomes : Obligations.DataByteOutcomes := by
  refine ⟨fun _ => rfl, fun w s => ⟨execWrDataB_of_no_message w s, fun hm hp hw ho => ?_,
    fun i hm hp => exec_wrDataB_of_partial w s i hm hp, fun hm hp hor => ?_⟩⟩
  · exact execWrDataB_of_overflow w s hm hp (by simp [overflowRefused, hw, ho])
  · have ho : overflowRefused s = false := by
      obtain h | h := hor <;> simp [overflowRefused, h]
    exact ⟨_, exec_wrDataB_of_full w s hm hp ho, busCycles_wrDataB_of_full w s hm hp ho, rfl⟩

/-! ### What the DOUT reads of a message give (R163 to R166) -/

/-- The counter of the base state does not matter: each block has its own. -/
theorem streamByte_set_counter (base : Vector Word 16) (c : Word) (j : Nat) :
    streamByte (base.set 12 c) j = streamByte base j := by
  simp [streamByte]

theorem streamByte_eq_messageKeystream {base : Vector Word 16} {k : Vector Byte 32} {n : Vector Byte 12}
    (h : base.set 12 0 = buildState k n) (j : Nat) : streamByte base j = messageKeystream k n j := by
  rw [← streamByte_set_counter base 0, h]
  rfl

/-- DOUT after a data write that starts at byte `j` of its message (R164, R165). -/
def writeOutput (base : Vector Word 16) (j : Nat) : DataWrite → Word
  | .byte b => zext32 (b ^^^ streamByte base j)
  | .word w => xorOutput w (streamByte base j) (streamByte base (j + 1)) (streamByte base (j + 2))
      (streamByte base (j + 3))

/-- The values that the DOUT reads of a sequence of data writes give, the first of which starts at byte `j`. -/
def shownOf (base : Vector Word 16) : Nat → List DataWrite → List Word
  | _, [] => []
  | j, x :: xs => writeOutput base j x :: shownOf base (j + x.stream.length) xs

@[simp] theorem streamOf_cons (x : DataWrite) (xs : List DataWrite) :
    streamOf (x :: xs) = x.stream ++ streamOf xs := rfl

theorem streamOf_bytes (data : List Byte) : streamOf (data.map .byte) = data := by
  induction data with
  | nil => rfl
  | cons b data ih => simp [ih, DataWrite.stream]

theorem streamOf_eq_nil_iff (ws : List DataWrite) : streamOf ws = [] ↔ ws = [] := by
  cases ws with
  | nil => exact ⟨fun _ => rfl, fun _ => rfl⟩
  | cons x xs => cases x <;> simp [DataWrite.stream, bytesLe]

/-- Byte `i` of a data write meets keystream byte `j + i` (R53, R54). -/
theorem output_writeOutput (base : Vector Word 16) (j : Nat) (x : DataWrite) :
    x.output (writeOutput base j x) = x.stream.mapIdx fun i d => d ^^^ streamByte base (j + i) := by
  cases x with
  | byte b => simp [DataWrite.output, DataWrite.stream, writeOutput]
  | word w => simp [DataWrite.output, DataWrite.stream, writeOutput, xorOutput, bytesLe]

/-- However the data is split, its byte `i` meets keystream byte `j + i`. -/
theorem outputOf_shownOf (base : Vector Word 16) (j : Nat) (ws : List DataWrite) :
    outputOf ws (shownOf base j ws) = (streamOf ws).mapIdx fun i d => d ^^^ streamByte base (j + i) := by
  induction ws generalizing j with
  | nil => rfl
  | cons x xs ih =>
    have hcons : outputOf (x :: xs) (shownOf base j (x :: xs)) =
        x.output (writeOutput base j x) ++ outputOf xs (shownOf base (j + x.stream.length) xs) := rfl
    rw [hcons, ih, output_writeOutput, streamOf_cons, List.mapIdx_append]
    simp only [Nat.add_assoc, Nat.add_comm x.stream.length]

@[simp] theorem length_shownOf (base : Vector Word 16) (j : Nat) (ws : List DataWrite) :
    (shownOf base j ws).length = ws.length := by
  induction ws generalizing j with
  | nil => rfl
  | cons x xs ih => simp [shownOf, ih]

/-- DATA_B writes show their output bytes, zero-extended. -/
theorem shownOf_bytes (base : Vector Word 16) (j : Nat) (data : List Byte) :
    shownOf base j (data.map .byte) = (data.mapIdx fun i d => d ^^^ streamByte base (j + i)).map zext32 := by
  induction data generalizing j with
  | nil => rfl
  | cons b data ih =>
    simp [shownOf, ih, writeOutput, DataWrite.stream, Nat.add_assoc, Nat.add_comm 1]

/-! ### The run of a message (R160, R260) -/

/-- Two states agree in what decides whether a message runs: the session, the overflow policy, the reset record. -/
structure SameControl (s t : State) : Prop where
  sess : t.sess = s.sess
  ovffail : t.ovffail = s.ovffail
  resetDone : t.resetDone = s.resetDone

theorem SameControl.trans {s t u : State} (h : SameControl s t) (h' : SameControl t u) : SameControl s u :=
  ⟨h'.sess.trans h.sess, h'.ovffail.trans h.ovffail, h'.resetDone.trans h.resetDone⟩

/-- What the port shows is no part of a message. -/
theorem inMessage_with_bus {base : Vector Word 16} {j : Nat} {s : State} (h : InMessage base j s) (b : BusOut) :
    InMessage base j { s with bus := b } :=
  ⟨h.open_, h.state, h.pointer, h.keystream, h.wrapped⟩

/-- The run of a register write that completes. -/
theorem runSteps_scriptWr {r : Reg} {w : Word} {s t : State} {rest : List ScriptStep} {run : ScriptRun}
    (hr : s.resetDone = true) (h : exec (decodeWrite r w) s = .next t) (hbus : t.bus = .writeDone)
    (hrun : runSteps rest t = .next run) : runSteps (scriptWr r w :: rest) s = .next run := by
  rw [runSteps_cons hr (by simpa [scriptWr] using h) hrun, hbus]
  simp [scriptWr, BusOut.rdata]

/-- The run of a DOUT read. -/
theorem runSteps_rdDout {s : State} (hr : s.resetDone = true) :
    runSteps [scriptRd .dout] s = .next ⟨{ s with bus := .readDone s.dout }, [s.dout], true⟩ :=
  runSteps_cons (s1 := { s with bus := .readDone s.dout }) (run := ⟨_, [], true⟩) hr rfl rfl

/-- A register write that completes and leaves `v` in DOUT, and the read of DOUT after it. -/
theorem runSteps_writeThenDout {r : Reg} {w v : Word} {s t : State} (hr : s.resetDone = true)
    (h : exec (decodeWrite r w) s = .next t) (hbus : t.bus = .writeDone) (hrt : t.resetDone = s.resetDone)
    (hv : t.dout = v) :
    runSteps [scriptWr r w, scriptRd .dout] s = .next ⟨{ t with bus := .readDone v }, [v], true⟩ := by
  subst hv
  exact runSteps_scriptWr hr h hbus (runSteps_rdDout (hrt.trans hr))

/-- A data write and the read of its output move a message on. -/
theorem runSteps_dataWrite {base : Vector Word 16} {j : Nat} {s : State} (h : InMessage base j s)
    (hr : s.resetDone = true) (x : DataWrite) (hn : s.ovffail = false ∨ j + x.stream.length ≤ 2 ^ 38) :
    ∃ t, runSteps x.steps s = .next ⟨t, [writeOutput base j x], true⟩ ∧
      InMessage base (j + x.stream.length) t ∧ SameControl s t := by
  cases x with
  | byte b =>
    obtain ⟨t, he, hm, -, hd, hb, hs, ho, -, hrt, -⟩ := h.dataByte hn (zext32 b)
    rw [byteOperand, byteOf_zext32] at hd
    exact ⟨_, runSteps_writeThenDout (r := .dataB) hr he hb hrt hd, inMessage_with_bus hm _, hs, ho, hrt⟩
  | word w =>
    obtain ⟨t, he, hm, -, hd, hb, hs, ho, -, hrt, -⟩ := h.dataWord hn w
    exact ⟨_, runSteps_writeThenDout (r := .dataW) hr he hb hrt hd, inMessage_with_bus hm _, hs, ho, hrt⟩

/-- Any sequence of data writes within the bound of R167 moves a message on. -/
theorem runSteps_dataWrites {base : Vector Word 16} {j : Nat} {s : State} (h : InMessage base j s)
    (hr : s.resetDone = true) (ws : List DataWrite) (hn : s.ovffail = false ∨ j + (streamOf ws).length ≤ 2 ^ 38) :
    ∃ t, runSteps (ws.flatMap DataWrite.steps) s = .next ⟨t, shownOf base j ws, true⟩ ∧
      InMessage base (j + (streamOf ws).length) t ∧ SameControl s t := by
  induction ws generalizing j s with
  | nil => exact ⟨s, rfl, h, rfl, rfl, rfl⟩
  | cons x xs ih =>
    simp only [streamOf_cons, List.length_append, ← Nat.add_assoc] at hn ⊢
    obtain ⟨t, hrun, hm, hc⟩ := runSteps_dataWrite h hr x (hn.imp_right fun hle => by omega)
    obtain ⟨u, hrun', hm', hc'⟩ := ih hm (hc.resetDone.trans hr) (by rwa [hc.ovffail])
    exact ⟨u, runSteps_append hrun hrun', hm', hc.trans hc'⟩

/-- A message before its END: its START opens it at block 0, whatever was going on in the session. -/
theorem runSteps_scriptMessage {s : State} (hr : s.resetDone = true) (hs : s.sess = true) (ws : List DataWrite)
    (hn : s.ovffail = false ∨ (streamOf ws).length ≤ 2 ^ 38) :
    ∃ t, runSteps (scriptMessage ws) s = .next ⟨t, shownOf s.S 0 ws, true⟩ ∧
      InMessage s.S (streamOf ws).length t ∧ SameControl s t := by
  obtain ⟨t, he, hm, hb, hst, hot, hrt, -⟩ := exec_start_inMessage s hs
  have hc : SameControl s t := ⟨hst.trans hs.symm, hot, hrt⟩
  obtain ⟨u, hrun, hu, hc'⟩ := runSteps_dataWrites hm (hrt.trans hr) ws (by simpa [hot] using hn)
  refine ⟨u, runSteps_scriptWr hr ?_ hb hrun, by simpa using hu, hc.trans hc'⟩
  exact (exec_wrCmd_word .start s).trans he

/-- The run of an END: the cipher state stays, its counter too. -/
theorem runSteps_end {s : State} (hr : s.resetDone = true) :
    ∃ t, runSteps [scriptCmd .endMsg] s = .next ⟨t, [], true⟩ ∧ t.S = s.S ∧ SameControl s t :=
  ⟨_, runSteps_scriptWr hr ((exec_wrCmd_word .endMsg s).trans (exec_endMsg s)) rfl rfl, rfl, rfl, rfl, rfl⟩

/-- A whole message changes the cipher state in its counter only. -/
theorem runSteps_wholeMessage {s : State} (hr : s.resetDone = true) (hs : s.sess = true) (ws : List DataWrite)
    (hn : s.ovffail = false ∨ (streamOf ws).length ≤ 2 ^ 38) :
    ∃ t, runSteps (scriptMessage ws ++ [scriptCmd .endMsg]) s = .next ⟨t, shownOf s.S 0 ws, true⟩ ∧
      (∃ c, t.S = s.S.set 12 c) ∧ SameControl s t := by
  obtain ⟨t, hrun, hm, hc⟩ := runSteps_scriptMessage hr hs ws hn
  obtain ⟨u, hend, hS, hc'⟩ := runSteps_end (hc.resetDone.trans hr)
  refine ⟨u, (runSteps_append hrun hend).trans ?_, ⟨_, hS.trans hm.state⟩, hc.trans hc'⟩
  simp

/-! ### Transform (R167, R169) and the end of a message (R170) -/

theorem expand_transform (data : List Byte) :
    (ScriptLine.transform data).expand = scriptMessage (data.map .byte) ++ [scriptCmd .endMsg] := by
  simp [ScriptLine.expand, scriptMessage, List.flatMap_map, DataWrite.steps]

/-- Settles O50: the message shows the bytes of its data combined with those of the session's keystream. -/
theorem transformXorsTheKeystream : Obligations.TransformXorsTheKeystream := by
  refine ⟨expand_transform, fun k n ws s hr hs hS hn => ?_⟩
  obtain ⟨t, hrun, -, -⟩ := runSteps_wholeMessage hr hs ws hn
  refine ⟨_, hrun, length_shownOf _ _ _, ?_⟩
  simp only [outputOf_shownOf, Nat.zero_add, streamByte_eq_messageKeystream hS]

/-- What `transform` shows, and the session it leaves. -/
theorem runSteps_transform {s : State} (hr : s.resetDone = true) (hs : s.sess = true) (data : List Byte)
    (hn : s.ovffail = false ∨ data.length ≤ 2 ^ 38) :
    ∃ t, runSteps (ScriptLine.transform data).expand s =
        .next ⟨t, (data.mapIdx fun i d => d ^^^ streamByte s.S i).map zext32, true⟩ ∧
      (∃ c, t.S = s.S.set 12 c) ∧ SameControl s t := by
  have h := runSteps_wholeMessage hr hs (data.map .byte) (by rwa [streamOf_bytes])
  simpa only [expand_transform, shownOf_bytes, Nat.zero_add] using h

/-- XOR with the same keystream twice gives the data back. -/
theorem mapIdx_xor_twice (key : Nat → Byte) (data : List Byte) :
    ((data.mapIdx fun i d => d ^^^ key i).mapIdx fun i d => d ^^^ key i) = data :=
  List.ext_getElem (by simp) fun i _ _ => by simp

/-- Settles O51: both messages meet the same keystream, and XOR with it twice cancels. -/
theorem transformTwiceGivesTheDataBack : Obligations.TransformTwiceGivesTheDataBack := by
  intro k n data s hr hs _ hn
  obtain ⟨t, hrun, ⟨c, hS⟩, hc⟩ := runSteps_transform hr hs data hn
  obtain ⟨u, hback, -, -⟩ := runSteps_transform (hc.resetDone.trans hr) (hc.sess.trans hs)
    (data.mapIdx fun i d => d ^^^ streamByte s.S i) (by simpa [hc.ovffail] using hn)
  simp only [hS, streamByte_set_counter, mapIdx_xor_twice] at hback
  exact ⟨_, _, hrun, by simpa [Function.comp_def] using hback, rfl⟩

/-- Settles O53: the message has taken its bytes, and they generate fewer than 2^32 blocks. -/
theorem counterAfterAMessage : Obligations.CounterAfterAMessage := by
  intro ws s hr hs hlen
  obtain ⟨t, hrun, hm, -⟩ := runSteps_scriptMessage hr hs ws (.inr (by omega))
  have hblocks : ((streamOf ws).length + 63) / 64 < 2 ^ 32 := by omega
  have hzero : (streamOf ws).length = 0 ↔ ws = [] := by rw [List.length_eq_zero_iff, streamOf_eq_nil_iff]
  refine ⟨_, hrun, by simp [outputOf_shownOf], ?_, ?_, fun h => ?_, fun h => ?_, _, exec_endMsg t, rfl⟩
  · simp only [hm.state, Vector.getElem_set_self, BitVec.toNat_ofNat, Nat.mod_eq_of_lt hblocks]
  · rw [hm.wrapped, decide_eq_false (Nat.not_le.mpr hblocks)]
  · exact Fin.ext (hm.pointer.trans (if_pos (hzero.mpr h)))
  · exact hm.pointer.trans (if_neg (mt hzero.mp h))

end Sys2Proof.Proofs

/-! PROOFS. Control, status and housekeeping (`43_control_status.md`): what every register read and every ignored write
does, the layouts of CTRL, STATUS and STAGE, and which instructions write RESULT. -/

namespace Sys2Proof.Proofs
open Sys2Proof.Machine Sys2Proof.Laws

/-! ### Which instructions write RESULT (R200) -/

theorem one_le_code (e : ErrorCode) : 1 ≤ e.code.toNat := by cases e <;> decide

theorem code_le_six (e : ErrorCode) : e.code.toNat ≤ 6 := by cases e <;> decide

/-- How a CMD write or a data write from `s` to `t` reports: RESULT is 0 and ERRF is as it was, or cleared where
`clears` holds; or RESULT is the code of an error and ERRF is 1 (R211, R212). -/
def Reports (clears : Prop) (s t : State) : Prop :=
  (t.result = 0 ∧ (t.errf = s.errf ∨ (clears ∧ t.errf = false))) ∨ ∃ e : ErrorCode, t.result = e.code ∧ t.errf = true

theorem Reports.success {p : Prop} {s t : State} (hr : t.result = 0) (he : t.errf = s.errf) : Reports p s t :=
  .inl ⟨hr, .inl he⟩

theorem Reports.cleared {p : Prop} {s t : State} (hp : p) (hr : t.result = 0) (he : t.errf = false) :
    Reports p s t :=
  .inl ⟨hr, .inr ⟨hp, he⟩⟩

theorem Reports.failure {p : Prop} {s t : State} (e : ErrorCode) (hr : t.result = e.code) (he : t.errf = true) :
    Reports p s t :=
  .inr ⟨e, hr, he⟩

theorem Reports.mono {p q : Prop} {s t : State} (h : Reports p s t) (hpq : p → q) : Reports q s t :=
  h.imp_left fun ⟨hr, he⟩ => ⟨hr, he.imp_right fun ⟨hp, h0⟩ => ⟨hpq hp, h0⟩⟩

/-- The row of a command reports, and only CLRERR clears ERRF (R191). -/
theorem exec_ofCommand_reports (k : Command) {s t : State} (h : exec (Instr.ofCommand k) s = .next t) :
    Reports (k = .clrerr) s t := by
  cases k with
  | session =>
    obtain ⟨-, e⟩ | ⟨-, -, e⟩ | ⟨-, -, e⟩ := exec_session_cases s <;> cases e.symm.trans h
    · exact .failure .invalidKeyLength rfl rfl
    · exact .failure .invalidNonceLength rfl rfl
    · exact .success rfl rfl
  | rekey =>
    obtain ⟨-, e⟩ | ⟨-, -, e⟩ | ⟨-, -, e⟩ := exec_rekey_cases s <;> cases e.symm.trans h
    · exact .failure .noSession rfl rfl
    · exact .failure .invalidKeyLength rfl rfl
    · exact .success rfl rfl
  | renonce =>
    obtain ⟨-, e⟩ | ⟨-, -, e⟩ | ⟨-, -, e⟩ := exec_renonce_cases s <;> cases e.symm.trans h
    · exact .failure .noSession rfl rfl
    · exact .failure .invalidNonceLength rfl rfl
    · exact .success rfl rfl
  | start =>
    obtain ⟨-, e⟩ | ⟨-, e⟩ := exec_start_cases s <;> cases e.symm.trans h
    · exact .failure .noSession rfl rfl
    · exact .success rfl rfl
  | clrerr =>
    cases h
    exact .cleared rfl rfl rfl
  | nop | endMsg | clrstage | clear =>
    cases h
    exact .success rfl rfl

theorem exec_illegalCmd_reports {p : Prop} (c : Word) {s t : State} (h : exec (.illegalCmd c) s = .next t) :
    Reports p s t := by
  cases (exec_illegalCmd c s).symm.trans h
  exact .failure .illegalCommand rfl rfl

/-- A CMD write reports as the row of its word does. -/
theorem exec_wrCmd_reports (c : Word) {s t : State} (h : exec (.wrCmd c) s = .next t) :
    Reports (c = Command.clrerr.word) s t := by
  rw [exec_wrCmd] at h
  obtain ⟨k, hc, hk⟩ | hi := command_or_illegal c
  · rw [hk] at h
    exact (exec_ofCommand_reports k h).mono fun hclr => by rw [hc, hclr]
  · rw [hi] at h
    exact exec_illegalCmd_reports c h

theorem exec_wrDataB_reports {p : Prop} (w : Word) {s t : State} (h : exec (.wrDataB w) s = .next t) :
    Reports p s t := by
  obtain ⟨-, e⟩ | ⟨-, -, -, e⟩ | ⟨-, _, e⟩ | ⟨-, -, -, e⟩ := exec_wrDataB_cases w s <;> cases e.symm.trans h
  · exact .failure .noMessage rfl rfl
  · exact .failure .overflowError rfl rfl
  · exact .success rfl rfl
  · exact .success rfl rfl

theorem exec_wrDataW_reports {p : Prop} (w : Word) {s t : State} (h : exec (.wrDataW w) s = .next t) :
    Reports p s t := by
  obtain ⟨-, e⟩ | ⟨-, -, -, e⟩ | ⟨-, _, e⟩ | ⟨-, -, _, e⟩ := exec_wrDataW_cases w s <;> cases e.symm.trans h
  · exact .failure .noMessage rfl rfl
  · exact .failure .overflowError rfl rfl
  · exact .success rfl rfl
  · exact .success rfl rfl

/-- The instructions that write RESULT: the row of a command, ILLEGAL_CMD, the CMD write and the two data writes. -/
theorem reportsResult_cases {i : Instr} (h : reportsResult i = true) :
    (∃ k, i = Instr.ofCommand k) ∨ (∃ c, i = .illegalCmd c) ∨ (∃ c, i = .wrCmd c) ∨ (∃ w, i = .wrDataB w) ∨
      ∃ w, i = .wrDataW w := by
  cases i with
  | nop => exact .inl ⟨.nop, rfl⟩
  | session => exact .inl ⟨.session, rfl⟩
  | rekey => exact .inl ⟨.rekey, rfl⟩
  | renonce => exact .inl ⟨.renonce, rfl⟩
  | start => exact .inl ⟨.start, rfl⟩
  | endMsg => exact .inl ⟨.endMsg, rfl⟩
  | clrstage => exact .inl ⟨.clrstage, rfl⟩
  | clear => exact .inl ⟨.clear, rfl⟩
  | clrerr => exact .inl ⟨.clrerr, rfl⟩
  | illegalCmd c => exact .inr (.inl ⟨c, rfl⟩)
  | wrCmd c => exact .inr (.inr (.inl ⟨c, rfl⟩))
  | wrDataB w => exact .inr (.inr (.inr (.inl ⟨w, rfl⟩)))
  | wrDataW w => exact .inr (.inr (.inr (.inr ⟨w, rfl⟩)))
  | _ => exact absurd h Bool.false_ne_true

/-- An instruction that writes RESULT reports, and only CLRERR, as its row or at the port, clears ERRF. -/
theorem exec_reports {i : Instr} {s t : State} (h : exec i s = .next t) (hi : reportsResult i = true) :
    Reports (i = .clrerr ∨ i = .wrCmd 0x08) s t := by
  obtain ⟨k, rfl⟩ | ⟨c, rfl⟩ | ⟨c, rfl⟩ | ⟨w, rfl⟩ | ⟨w, rfl⟩ := reportsResult_cases hi
  · exact (exec_ofCommand_reports k h).mono fun hk => .inl (congrArg Instr.ofCommand hk)
  · exact exec_illegalCmd_reports c h
  · exact (exec_wrCmd_reports c h).mono fun hc => .inr (congrArg Instr.wrCmd hc)
  · exact exec_wrDataB_reports w h
  · exact exec_wrDataW_reports w h

/-- The reads, and the writes to any register but CMD, DATA_B and DATA_W, touch neither RESULT nor ERRF. -/
theorem exec_keeps_result {i : Instr} {s t : State} (h : exec i s = .next t) (hi : reportsResult i = false) :
    t.result = s.result ∧ t.errf = s.errf := by
  cases i with
  | nop | session | rekey | renonce | start | endMsg | clrstage | clear | clrerr | illegalCmd _ | wrCmd _ | wrDataB _
  | wrDataW _ => exact absurd hi.symm Bool.false_ne_true
  | _ =>
    cases h
    exact ⟨rfl, rfl⟩

/-- Settles O14: an instruction that writes RESULT succeeds or raises one of the six errors; any other leaves RESULT and
ERRF. -/
theorem resultIsWrittenByCmdAndDataWritesOnly : Obligations.ResultIsWrittenByCmdAndDataWritesOnly := fun _ _ _ h =>
  ⟨exec_keeps_result h, fun hi => (exec_reports h hi).imp_right fun ⟨e, hr, he⟩ => by
    rw [hr]
    exact ⟨one_le_code e, code_le_six e, he⟩⟩

/-! ### NOP and CLRERR (R190, R191) -/

theorem exec_nop (s : State) : exec .nop s = .next { s with result := 0, bus := .writeDone } := rfl

theorem exec_clrerr (s : State) : exec .clrerr s = .next { s with errf := false, result := 0, bus := .writeDone } := rfl

/-- Settles O21: both succeed, and CLRERR clears the sticky flag as well. -/
theorem nopAndClrerr : Obligations.NopAndClrerr :=
  ⟨rfl, rfl, fun s => ⟨exec_nop s, exec_clrerr s⟩⟩

/-! ### Register reads and ignored writes (R62, R78) -/

theorem encode_decodeRead (r : Reg) : encode (decodeRead r) = .bus ⟨false, r.index, 0⟩ := by cases r <;> rfl

theorem encode_decodeWrite (r : Reg) (w : Word) : encode (decodeWrite r w) = .bus ⟨true, r.index, w⟩ := by
  cases r <;> rfl

/-- A read of a register shows the register's value and changes nothing else. -/
theorem exec_decodeRead (r : Reg) (s : State) :
    exec (decodeRead r) s = .next { s with bus := .readDone (readRegister r s) } := by cases r <;> rfl

/-- A register with nothing to read reads as 0 (R197, R199). -/
theorem readRegister_of_unreadable {r : Reg} (s : State) (h : r.access = .writeOnly ∨ r.access = .reserved) :
    readRegister r s = 0 := by
  cases r with
  | ctrl | status | ctr | stage | dout => simp [Reg.access] at h
  | _ => rfl

/-- A read of a register with nothing to read gives 0 and changes nothing (R197, R199). -/
theorem exec_decodeRead_of_unreadable {r : Reg} (s : State) (h : r.access = .writeOnly ∨ r.access = .reserved) :
    exec (decodeRead r) s = .next { s with bus := .readDone 0 } := by
  rw [exec_decodeRead, readRegister_of_unreadable s h]

/-- A write to a register that takes none completes and changes nothing (R198, R199). -/
theorem exec_decodeWrite_of_unwritable {r : Reg} (w : Word) (s : State)
    (h : r.access = .readOnly ∨ r.access = .reserved) :
    exec (decodeWrite r w) s = .next { s with bus := .writeDone } := by
  cases r with
  | ctrl | cmd | keyIn | nonceIn | dataB | dataW => simp [Reg.access] at h
  | _ => rfl

/-- Settles O26: the five registers are write-only, and DOUT reads as DOUT. -/
theorem writeOnlyRegistersReadZero : Obligations.WriteOnlyRegistersReadZero := by
  have hread (r : Reg) (h : r.access = .writeOnly) : encode (decodeRead r) = .bus ⟨false, r.index, 0⟩ ∧
      ∀ s : State, exec (decodeRead r) s = .next { s with bus := .readDone 0 } :=
    ⟨encode_decodeRead r, fun s => exec_decodeRead_of_unreadable s (.inl h)⟩
  refine ⟨?_, encode_decodeRead .dout, exec_decodeRead .dout⟩
  simp only [List.forall_mem_cons]
  exact ⟨hread .cmd rfl, hread .keyIn rfl, hread .nonceIn rfl, hread .dataB rfl, hread .dataW rfl,
    List.forall_mem_nil _⟩

/-- Settles O27: the four registers are read-only. -/
theorem readOnlyRegistersIgnoreWrites : Obligations.ReadOnlyRegistersIgnoreWrites := by
  intro w
  have hwrite (r : Reg) (h : r.access = .readOnly) : encode (decodeWrite r w) = .bus ⟨true, r.index, w⟩ ∧
      ∀ s : State, exec (decodeWrite r w) s = .next { s with bus := .writeDone } :=
    ⟨encode_decodeWrite r w, fun s => exec_decodeWrite_of_unwritable w s (.inl h)⟩
  simp only [List.forall_mem_cons]
  exact ⟨hwrite .status rfl, hwrite .ctr rfl, hwrite .stage rfl, hwrite .dout rfl, List.forall_mem_nil _⟩

/-- Settles O28: the six registers are reserved. -/
theorem reservedOffsets : Obligations.ReservedOffsets := by
  intro w
  have hboth (r : Reg) (h : r.access = .reserved) : encode (decodeRead r) = .bus ⟨false, r.index, 0⟩ ∧
      encode (decodeWrite r w) = .bus ⟨true, r.index, w⟩ ∧
      ∀ s : State, exec (decodeRead r) s = .next { s with bus := .readDone 0 } ∧
        exec (decodeWrite r w) s = .next { s with bus := .writeDone } :=
    ⟨encode_decodeRead r, encode_decodeWrite r w, fun s =>
      ⟨exec_decodeRead_of_unreadable s (.inr h), exec_decodeWrite_of_unwritable w s (.inr h)⟩⟩
  simp only [List.forall_mem_cons]
  exact ⟨hboth .rsv1C rfl, hboth .rsv2C rfl, hboth .rsv30 rfl, hboth .rsv34 rfl, hboth .rsv38 rfl, hboth .rsv3C rfl,
    List.forall_mem_nil _⟩

/-! ### CTRL, STATUS, CTR and STAGE (R192 to R196) -/

theorem exec_wrCtrl (w : Word) (s : State) :
    exec (.wrCtrl w) s = .next { s with ovffail := w.getLsbD 0, bus := .writeDone } := rfl

/-- The word with `x` at bits `k` and up and 0 elsewhere: a field of a register's layout. -/
def field {n : Nat} (k : Nat) (x : BitVec n) : Word := x.setWidth 32 <<< k

@[simp] theorem getElem_field {n : Nat} (k : Nat) (x : BitVec n) {i : Nat} (hi : i < 32) :
    (field k x)[i] = (!decide (i < k) && x.getLsbD (i - k)) := by
  simp [field]

/-- The bits of a field are its value. -/
@[simp] theorem extract_field {n k : Nat} (x : BitVec n) (h : k + n ≤ 32) : (field k x).extractLsb' k n = x := by
  ext i hi
  simp [field, show k + i < 32 by omega, hi]

/-- Bits that a field does not reach are 0. -/
@[simp] theorem extract_field_of_disjoint {n k a m : Nat} (x : BitVec n) (h : a + m ≤ k ∨ k + n ≤ a) :
    (field k x).extractLsb' a m = 0#m := by
  ext i hi
  obtain h | h := h
  · simp [field, show a + i < k by omega]
  · simp [field, BitVec.getLsbD_of_ge x (a + i - k) (by omega)]

theorem ctrlWord_eq_field (s : State) : ctrlWord s = field 0 (BitVec.ofBool s.ovffail) := by
  simp [ctrlWord, flagWord, field]

theorem stageWord_eq_fields (s : State) : stageWord s = field 0 s.keycnt ||| field 8 s.noncecnt := by
  simp [stageWord, field]

/-- KSPTR, 0 to 64, fits in its 7 bits of STATUS. -/
theorem setWidth_ksptr (p : Fin 65) : (BitVec.ofNat 7 p.val).setWidth 32 = BitVec.ofNat 32 p.val :=
  BitVec.setWidth_ofNat_of_le_of_lt (by decide) (by omega)

theorem statusWord_eq_fields (s : State) :
    statusWord s =
      field 0 (BitVec.ofBool s.sess) ||| field 1 (BitVec.ofBool s.msg) ||| field 2 (BitVec.ofBool s.ctrwrap)
        ||| field 3 (BitVec.ofBool s.errf) ||| field 8 s.result ||| field 16 (BitVec.ofNat 7 s.ksptr.val) := by
  simp only [statusWord, flagWord, field, setWidth_ksptr, BitVec.shiftLeft_zero]

/-- Settles O23: CTRL is the one field OVFFAIL. -/
theorem controlRegister : Obligations.ControlRegister := by
  refine ⟨encode_decodeRead .ctrl, encode_decodeWrite .ctrl, exec_wrCtrl, fun s =>
    ⟨ctrlWord s, exec_decodeRead .ctrl s, ?_⟩⟩
  simp [ctrlWord_eq_field]

/-- Settles O24: the six fields of STATUS do not overlap and reach no reserved bit. -/
theorem statusRegisterLayout : Obligations.StatusRegisterLayout := by
  refine ⟨encode_decodeRead .status, fun s => ⟨statusWord s, exec_decodeRead .status s, ?_⟩⟩
  have hreset : s = State.reset → statusWord s = 0x00400000 := fun h => h ▸ rfl
  have hksptr : s.ksptr.val < 128 := by omega
  simpa [statusWord_eq_fields, BitVec.extractLsb'_or, hksptr] using hreset

/-- Settles O25: the two counts of STAGE do not overlap and reach no reserved bit. -/
theorem counterAndStageRegisters : Obligations.CounterAndStageRegisters := by
  refine ⟨encode_decodeRead .ctr, encode_decodeRead .stage, fun s =>
    ⟨exec_decodeRead .ctr s, stageWord s, exec_decodeRead .stage s, ?_⟩⟩
  simp [stageWord_eq_fields, BitVec.extractLsb'_or]

end Sys2Proof.Proofs

/-! PROOFS. Exceptions (`60_exceptions.md`): what the state is after a transaction that raises an error (R210, R211). -/

namespace Sys2Proof.Proofs
open Sys2Proof.Machine Sys2Proof.Laws

/-! ### The state after an error (R211) -/

/-- The states after a write from `s` that raises an error: nothing was done before but the clear of the key stage,
where `clearsKey` holds, and of the nonce stage, where `clearsNonce` holds. -/
inductive RaisedFrom (clearsKey clearsNonce : Prop) (s : State) : State → Prop
  | unstaged (e : ErrorCode) : RaisedFrom clearsKey clearsNonce s { raise e s with bus := .writeDone }
  | key (e : ErrorCode) (hk : clearsKey) :
      RaisedFrom clearsKey clearsNonce s { raise e (clearKeyStage s) with bus := .writeDone }
  | nonce (e : ErrorCode) (hn : clearsNonce) :
      RaisedFrom clearsKey clearsNonce s { raise e (clearNonceStage s) with bus := .writeDone }
  | both (e : ErrorCode) (hk : clearsKey) (hn : clearsNonce) :
      RaisedFrom clearsKey clearsNonce s { raise e (clearNonceStage (clearKeyStage s)) with bus := .writeDone }

theorem RaisedFrom.mono {p q p' q' : Prop} {s t : State} (hp : p → p') (hq : q → q') :
    RaisedFrom p q s t → RaisedFrom p' q' s t
  | .unstaged e => .unstaged e
  | .key e hk => .key e (hp hk)
  | .nonce e hn => .nonce e (hq hn)
  | .both e hk hn => .both e (hp hk) (hq hn)

/-- Only RESULT, ERRF, the port and the stages can differ from the state before. -/
theorem RaisedFrom.frame {p q : Prop} {s t : State} (h : RaisedFrom p q s t) :
    t = { s with result := t.result, errf := true, bus := .writeDone, keybuf := t.keybuf, keycnt := t.keycnt,
                 noncebuf := t.noncebuf, noncecnt := t.noncecnt } := by
  cases h <;> rfl

theorem RaisedFrom.keyStage {p q : Prop} {s t : State} (h : RaisedFrom p q s t) :
    (t.keybuf = s.keybuf ∧ t.keycnt = s.keycnt) ∨ (p ∧ t.keybuf = Vector.replicate 32 0 ∧ t.keycnt = 0) := by
  cases h with
  | unstaged | nonce => exact .inl ⟨rfl, rfl⟩
  | key _ hk | both _ hk => exact .inr ⟨hk, rfl, rfl⟩

theorem RaisedFrom.nonceStage {p q : Prop} {s t : State} (h : RaisedFrom p q s t) :
    (t.noncebuf = s.noncebuf ∧ t.noncecnt = s.noncecnt) ∨
      (q ∧ t.noncebuf = Vector.replicate 12 0 ∧ t.noncecnt = 0) := by
  cases h with
  | unstaged | key => exact .inl ⟨rfl, rfl⟩
  | nonce _ hn | both _ _ hn => exact .inr ⟨hn, rfl, rfl⟩

/-! ### Which rows clear a stage before they raise -/

/-- Where the row of a command reports an error, it raised it after at most the stage clears of SESSION, REKEY and
RENONCE (R105 to R107). -/
theorem exec_ofCommand_raisedFrom (k : Command) {s t : State} (h : exec (Instr.ofCommand k) s = .next t)
    (hr : t.result ≠ 0) : RaisedFrom (k ∈ [.session, .rekey]) (k ∈ [.session, .renonce]) s t := by
  cases k with
  | session =>
    obtain ⟨-, e⟩ | ⟨-, -, e⟩ | ⟨-, -, e⟩ := exec_session_cases s <;> cases e.symm.trans h
    · exact .both .invalidKeyLength (by decide) (by decide)
    · exact .both .invalidNonceLength (by decide) (by decide)
    · exact absurd rfl hr
  | rekey =>
    obtain ⟨-, e⟩ | ⟨-, -, e⟩ | ⟨-, -, e⟩ := exec_rekey_cases s <;> cases e.symm.trans h
    · exact .key .noSession (by decide)
    · exact .key .invalidKeyLength (by decide)
    · exact absurd rfl hr
  | renonce =>
    obtain ⟨-, e⟩ | ⟨-, -, e⟩ | ⟨-, -, e⟩ := exec_renonce_cases s <;> cases e.symm.trans h
    · exact .nonce .noSession (by decide)
    · exact .nonce .invalidNonceLength (by decide)
    · exact absurd rfl hr
  | start =>
    obtain ⟨-, e⟩ | ⟨-, e⟩ := exec_start_cases s <;> cases e.symm.trans h
    · exact .unstaged .noSession
    · exact absurd rfl hr
  | nop | endMsg | clrstage | clear | clrerr =>
    cases h
    exact absurd rfl hr

theorem exec_illegalCmd_raisedFrom {p q : Prop} (c : Word) {s t : State} (h : exec (.illegalCmd c) s = .next t) :
    RaisedFrom p q s t := by
  cases h
  exact .unstaged .illegalCommand

/-- A CMD write raises an error as the row of its word does (R72). -/
theorem exec_wrCmd_raisedFrom (c : Word) {s t : State} (h : exec (.wrCmd c) s = .next t) (hr : t.result ≠ 0) :
    RaisedFrom (c ∈ [0x01, 0x02]) (c ∈ [0x01, 0x03]) s t := by
  rw [exec_wrCmd] at h
  obtain ⟨k, rfl, hk⟩ | hi := command_or_illegal c
  · rw [hk] at h
    exact (exec_ofCommand_raisedFrom k h hr).mono (List.mem_map_of_mem (f := Command.word))
      (List.mem_map_of_mem (f := Command.word))
  · rw [hi] at h
    exact exec_illegalCmd_raisedFrom c h

theorem exec_wrDataB_raisedFrom {p q : Prop} (w : Word) {s t : State} (h : exec (.wrDataB w) s = .next t)
    (hr : t.result ≠ 0) : RaisedFrom p q s t := by
  obtain ⟨-, e⟩ | ⟨-, -, -, e⟩ | ⟨-, _, e⟩ | ⟨-, -, -, e⟩ := exec_wrDataB_cases w s <;> cases e.symm.trans h
  · exact .unstaged .noMessage
  · exact .unstaged .overflowError
  · exact absurd rfl hr
  · exact absurd rfl hr

theorem exec_wrDataW_raisedFrom {p q : Prop} (w : Word) {s t : State} (h : exec (.wrDataW w) s = .next t)
    (hr : t.result ≠ 0) : RaisedFrom p q s t := by
  obtain ⟨-, e⟩ | ⟨-, -, -, e⟩ | ⟨-, _, e⟩ | ⟨-, -, _, e⟩ := exec_wrDataW_cases w s <;> cases e.symm.trans h
  · exact .unstaged .noMessage
  · exact .unstaged .overflowError
  · exact absurd rfl hr
  · exact absurd rfl hr

/-- An instruction that reports an error raised it after at most the stage clears of SESSION, REKEY and RENONCE, as
their rows or at the port. -/
theorem exec_raisedFrom {i : Instr} {s t : State} (h : exec i s = .next t) (hi : reportsResult i = true)
    (hr : t.result ≠ 0) :
    RaisedFrom (i ∈ [.session, .rekey, .wrCmd 0x01, .wrCmd 0x02]) (i ∈ [.session, .renonce, .wrCmd 0x01, .wrCmd 0x03])
      s t := by
  obtain ⟨k, rfl⟩ | ⟨c, rfl⟩ | ⟨c, rfl⟩ | ⟨w, rfl⟩ | ⟨w, rfl⟩ := reportsResult_cases hi
  · exact (exec_ofCommand_raisedFrom k h hr).mono
      (fun hk => List.mem_append_left [.wrCmd 0x01, .wrCmd 0x02] (List.mem_map_of_mem (f := Instr.ofCommand) hk))
      (fun hn => List.mem_append_left [.wrCmd 0x01, .wrCmd 0x03] (List.mem_map_of_mem (f := Instr.ofCommand) hn))
  · exact exec_illegalCmd_raisedFrom c h
  · exact (exec_wrCmd_raisedFrom c h hr).mono
      (fun hk => List.mem_append_right [.session, .rekey] (List.mem_map_of_mem (f := Instr.wrCmd) hk))
      (fun hn => List.mem_append_right [.session, .renonce] (List.mem_map_of_mem (f := Instr.wrCmd) hn))
  · exact exec_wrDataB_raisedFrom w h hr
  · exact exec_wrDataW_raisedFrom w h hr

/-- Settles O15: an error is raised after nothing but stage clears, so all else is as it was before the transaction. -/
theorem errorsArePrecise : Obligations.ErrorsArePrecise := fun _ _ _ h hi hr =>
  have hraised := exec_raisedFrom h hi hr
  ⟨hraised.frame, hraised.keyStage, hraised.nonceStage⟩

end Sys2Proof.Proofs

/-! PROOFS. Reset and hazards (`70_reset_and_hazards.md`): what reset leaves and what reads show after it (R241 to R243),
and how a data write that requests a block follows a CTRL write before it (R255). -/

namespace Sys2Proof.Proofs
open Sys2Proof.Machine Sys2Proof.Laws

/-! ### Reset (R241 to R243) -/

/-- A step on a reset input leaves the reset state, whatever the transaction it aborts; only the host's further inputs
and the model's count of free values are kept. -/
theorem step_of_reset_input {s : State} {held : Option Transaction} {rest : List HostInput}
    (h : s.inputs = .reset held :: rest) :
    step s = .next { State.reset with inputs := rest, xDraws := s.xDraws } := by
  have hrest : (takeInput s).inputs = rest := by rw [takeInput_inputs, h, List.tail_cons]
  rw [step_of_reset h, applyReset, hrest, takeInput_xDraws]

/-- Settles O9: the step leaves the reset state, whose elements hold the values of R241. -/
theorem resetOverridesEverything : Obligations.ResetOverridesEverything := by
  intro s held rest h
  refine ⟨_, step_of_reset_input h, ?_⟩
  simp [State.reset, BusOut.ready, BusOut.rdata]

/-- Every read row is the read of a register (R78). -/
theorem eq_decodeRead_of_isRead {i : Instr} (h : isRead i = true) : ∃ r, i = decodeRead r := by
  cases i with
  | rdCtrl => exact ⟨.ctrl, rfl⟩
  | rdCmd => exact ⟨.cmd, rfl⟩
  | rdStatus => exact ⟨.status, rfl⟩
  | rdCtr => exact ⟨.ctr, rfl⟩
  | rdKeyIn => exact ⟨.keyIn, rfl⟩
  | rdNonceIn => exact ⟨.nonceIn, rfl⟩
  | rdStage => exact ⟨.stage, rfl⟩
  | rdRsv1C => exact ⟨.rsv1C, rfl⟩
  | rdDataB => exact ⟨.dataB, rfl⟩
  | rdDataW => exact ⟨.dataW, rfl⟩
  | rdDout => exact ⟨.dout, rfl⟩
  | rdRsv2C => exact ⟨.rsv2C, rfl⟩
  | rdRsv30 => exact ⟨.rsv30, rfl⟩
  | rdRsv34 => exact ⟨.rsv34, rfl⟩
  | rdRsv38 => exact ⟨.rsv38, rfl⟩
  | rdRsv3C => exact ⟨.rsv3C, rfl⟩
  | _ => cases h

/-- Just after reset every register but STATUS reads as 0. -/
theorem readRegister_reset {r : Reg} (h : r ≠ .status) : readRegister r State.reset = 0 := by
  cases r with
  | status => exact absurd rfl h
  | _ => rfl

/-- Just after reset a read of any register but STATUS gives 0 and changes nothing. -/
theorem exec_decodeRead_reset {r : Reg} (h : r ≠ .status) :
    exec (decodeRead r) State.reset = .next { State.reset with bus := .readDone 0 } := by
  rw [exec_decodeRead, readRegister_reset h]

/-- Settles O10: STATUS shows KSPTR = 64, in its bits 22:16, and every other register reads as 0. -/
theorem registerReadsAfterReset : Obligations.RegisterReadsAfterReset := by
  have hread (r : Reg) (h : r ≠ .status) := exec_decodeRead_reset h
  refine ⟨hread .ctrl nofun, exec_decodeRead .status _, hread .ctr nofun, hread .stage nofun, hread .dout nofun,
    by simp [State.reset], fun i hi hne => ?_⟩
  obtain ⟨r, rfl⟩ := eq_decodeRead_of_isRead hi
  exact hread r fun hr => hne (congrArg decodeRead hr)

/-- Settles O11: a step takes a transaction only once reset has been done. -/
theorem runsBeforeTheFirstResetAreRefused : Obligations.RunsBeforeTheFirstResetAreRefused :=
  fun _ _ _ hr hi => step_before_reset hr hi

/-! ### CTRL writes within a message (R255) -/

/-- With the counter wrapped, `u` is where a block request at `s` may lead under the policy of `s`: with OVFFAIL = 1 to
OverflowError and nothing else, with OVFFAIL = 0 to success and one more block (R163). -/
def ObeysPolicy (s u : State) : Prop :=
  (s.ovffail = true → u = { s with result := 5, errf := true, bus := .writeDone }) ∧
  (s.ovffail = false → u.result = 0 ∧ u.S[12] = s.S[12] + 1)

theorem obeysPolicy_refused {s : State} (ho : s.ovffail = true) :
    ObeysPolicy s { raise .overflowError s with bus := .writeDone } :=
  ⟨fun _ => rfl, fun hf => absurd (ho.symm.trans hf) nofun⟩

theorem obeysPolicy_accepted {s u : State} (ho : s.ovffail = false) (hr : u.result = 0) (hS : u.S = (genBlock s).S) :
    ObeysPolicy s u :=
  ⟨fun ht => absurd (ho.symm.trans ht) nofun, fun _ => ⟨hr, by simp [hS]⟩⟩

/-- Once the counter has wrapped, OVFFAIL alone decides whether a block request is refused. -/
theorem overflowRefused_of_wrapped {s : State} (hw : s.ctrwrap = true) : overflowRefused s = s.ovffail := by
  rw [overflowRefused, hw, Bool.true_and]

/-- A DATA_B write that requests a block obeys the policy. -/
theorem exec_wrDataB_obeysPolicy (w : Word) {s : State} (hm : s.msg = true) (hw : s.ctrwrap = true)
    (hp : s.ksptr = 64) : ∃ u, exec (.wrDataB w) s = .next u ∧ ObeysPolicy s u := by
  have hpolicy := overflowRefused_of_wrapped hw
  cases ho : s.ovffail with
  | true => exact ⟨_, execWrDataB_of_overflow w s hm hp (hpolicy.trans ho), obeysPolicy_refused ho⟩
  | false => exact ⟨_, exec_wrDataB_of_full w s hm hp (hpolicy.trans ho), obeysPolicy_accepted ho rfl rfl⟩

/-- A DATA_W write within which a block request falls obeys the policy. -/
theorem exec_wrDataW_obeysPolicy (w : Word) {s : State} (hm : s.msg = true) (hw : s.ctrwrap = true)
    (hp : 60 < s.ksptr.val) : ∃ u, exec (.wrDataW w) s = .next u ∧ ObeysPolicy s u := by
  have hpolicy := overflowRefused_of_wrapped hw
  cases ho : s.ovffail with
  | true => exact ⟨_, execWrDataW_of_overflow w s hm hp (hpolicy.trans ho), obeysPolicy_refused ho⟩
  | false =>
    refine ⟨_, execWrDataW_of_accepted w s hm (.inr (hpolicy.trans ho)), obeysPolicy_accepted ho rfl ?_⟩
    exact congrArg (fun r : Vector Byte 4 × State => r.2.S) (xorWord_of_gt (wordOperand w) s hp)

/-- Settles O49: the CTRL write leaves the message, the wrapped counter and KSPTR as they are, and the data write obeys
the OVFFAIL it has written. -/
theorem overflowPolicyTakesEffectAtTheNextBlock : Obligations.OverflowPolicyTakesEffectAtTheNextBlock := by
  intro v w s hm hw
  let t : State := { s with ovffail := v.getLsbD 0, bus := .writeDone }
  exact ⟨t, exec_wrCtrl v s, rfl, exec_wrDataB_obeysPolicy w (s := t) hm hw,
    exec_wrDataW_obeysPolicy w (s := t) hm hw⟩

end Sys2Proof.Proofs

/-! PROOFS. Encoding and the step (`30_encoding.md` R70 to R79, `20_memory.md`): decoder and encoder are inverse to each
other, and a step runs the row of the transaction that it takes. -/

namespace Sys2Proof.Proofs
open Sys2Proof.Machine Sys2Proof.Laws

/-! ### The rows of the opcode table -/

/-- The rows by what they stand for: a command, the word of no command, a register read, a register write. -/
inductive Row : Instr → Prop
  | command (k : Command) : Row (Instr.ofCommand k)
  | illegal (c : Word) : Row (.illegalCmd c)
  | read (r : Reg) : Row (decodeRead r)
  | write (r : Reg) (w : Word) : Row (decodeWrite r w)

theorem row_of_reportsResult {i : Instr} (h : reportsResult i = true) : Row i := by
  obtain ⟨k, rfl⟩ | ⟨c, rfl⟩ | ⟨c, rfl⟩ | ⟨w, rfl⟩ | ⟨w, rfl⟩ := reportsResult_cases h
  · exact .command k
  · exact .illegal c
  · exact .write .cmd c
  · exact .write .dataB w
  · exact .write .dataW w

/-- Every instruction is of one of the four kinds. -/
theorem row_total (i : Instr) : Row i := by
  by_cases hread : isRead i = true
  · obtain ⟨r, rfl⟩ := eq_decodeRead_of_isRead hread
    exact .read r
  by_cases hreport : reportsResult i = true
  · exact row_of_reportsResult hreport
  cases i with
  | wrCtrl w => exact .write .ctrl w
  | wrStatus w => exact .write .status w
  | wrCtr w => exact .write .ctr w
  | wrKeyIn w => exact .write .keyIn w
  | wrNonceIn w => exact .write .nonceIn w
  | wrStage w => exact .write .stage w
  | wrRsv1C w => exact .write .rsv1C w
  | wrDout w => exact .write .dout w
  | wrRsv2C w => exact .write .rsv2C w
  | wrRsv30 w => exact .write .rsv30 w
  | wrRsv34 w => exact .write .rsv34 w
  | wrRsv38 w => exact .write .rsv38 w
  | wrRsv3C w => exact .write .rsv3C w
  | nop | session | rekey | renonce | start | endMsg | clrstage | clear | clrerr | illegalCmd _ | wrCmd _ | wrDataB _
  | wrDataW _ => exact absurd rfl hreport
  | _ => exact absurd rfl hread

/-! ### Decoder and encoder (R70 to R79) -/

theorem encode_ofCommand (k : Command) : encode (Instr.ofCommand k) = .cmd k.word := by cases k <;> rfl

/-- Settles O1: row by row; a word of no command is the one that `wf` lets ILLEGAL_CMD stand for. -/
theorem decodeInvertsEncode : Obligations.DecodeInvertsEncode := by
  intro i hwf
  cases row_total i with
  | command k => rw [encode_ofCommand, decode, decodeCommandWord_word]
  | illegal c => exact decodeCommandWord_illegal ((decodeCommand_none_iff_wf c).mpr hwf)
  | read r => rw [encode_decodeRead]; exact decodeTransaction_busRead r
  | write r w => rw [encode_decodeWrite]; exact decodeTransaction_busWrite r w

theorem wf_ofCommand (k : Command) : (Instr.ofCommand k).wf = true := by cases k <;> rfl

theorem wf_decodeRead (r : Reg) : (decodeRead r).wf = true := by cases r <;> rfl

theorem wf_decodeWrite (r : Reg) (w : Word) : (decodeWrite r w).wf = true := by cases r <;> rfl

theorem wf_decodeCommandWord (c : Word) : (decodeCommandWord c).wf = true := by
  cases h : decodeCommand c with
  | none =>
    rw [decodeCommandWord_illegal h]
    exact (decodeCommand_none_iff_wf c).mp h
  | some k => rw [decodeCommand_some h, decodeCommandWord_word, wf_ofCommand]

theorem wf_decode (e : Encoding) : (decode e).wf = true := by
  obtain c | ⟨_ | _, a, w⟩ := e
  · exact wf_decodeCommandWord c
  · exact wf_decodeRead (Reg.ofIndex a)
  · exact wf_decodeWrite (Reg.ofIndex a) w

theorem encode_decodeCommandWord (c : Word) : encode (decodeCommandWord c) = .cmd c := by
  obtain ⟨k, hc, hk⟩ | hi := command_or_illegal c
  · rw [hk, encode_ofCommand, hc]
  · rw [hi, encode]

/-- Settles O2: the row of a word or of a transaction has that word or transaction as its encoding, `wdata` of a read
aside. -/
theorem encodeInvertsDecode : Obligations.EncodeInvertsDecode := by
  refine ⟨wf_decode, encode_decodeCommandWord, fun a w => ?_, fun a w => ?_⟩
  · exact (encode_decodeWrite (Reg.ofIndex a) w).trans (by rw [index_ofIndex])
  · exact (encode_decodeRead (Reg.ofIndex a)).trans (by rw [index_ofIndex])

/-- Settles O3: the eight words, by computation. -/
theorem writtenOutWordsDecode : Obligations.WrittenOutWordsDecode := by
  unfold Obligations.WrittenOutWordsDecode
  decide

/-! ### The step (`20_memory.md` R57) -/

theorem takeInput_eq {s : State} {x : HostInput} {rest : List HostInput} (h : s.inputs = x :: rest) :
    takeInput s = { s with inputs := rest } := by
  rw [takeInput, h, List.tail_cons]

/-- The transaction that carries an encoding runs the row of the encoding, a command word through its CMD write
(R72). -/
theorem exec_transaction (e : Encoding) (s : State) : exec (decodeTransaction e.transaction) s = exec (decode e) s := by
  cases e with
  | cmd c => exact exec_wrCmd c s
  | bus t => rfl

/-- Settles O6: the step takes the transaction and runs its row. -/
theorem stepRunsTheRowOfTheTransaction : Obligations.StepRunsTheRowOfTheTransaction := by
  intro t s rest hr h
  rw [step_of_transaction hr h, takeInput_eq h]

/-- Settles O5: the row of the transaction is that of the encoding, which is the instruction. -/
theorem stepRunsTheDecodedInstruction : Obligations.StepRunsTheDecodedInstruction := by
  intro i s rest hwf hr h
  rw [stepRunsTheRowOfTheTransaction _ s rest hr h, exec_transaction, decodeInvertsEncode i hwf]

/-- Settles O8: the core idles. -/
theorem nothingPresentedChangesNothing : Obligations.NothingPresentedChangesNothing :=
  fun _ h => step_of_no_input h

end Sys2Proof.Proofs

/-! PROOFS. Who writes what: what an instruction does to the state, said once for all instructions, and what follows for
completion, the block counter, the flags, CTRL and DOUT (`10_state.md`, `30_encoding.md` R71, `60_exceptions.md`
R217, R220). -/

namespace Sys2Proof.Proofs
open Sys2Proof.Machine Sys2Proof.Laws

/-! ### What an instruction does -/

/-- The state after a command that succeeds, before the write ends on the port (R105 to R109, R161, R162, R190,
R191). -/
inductive CommandDone (s : State) : Command → State → Prop
  | nop : CommandDone s .nop (ok s)
  | session : CommandDone s .session (ok (resetMsg
      { clearNonceStage (clearKeyStage s) with S := buildState s.keybuf s.noncebuf, sess := true }))
  | rekey (hs : s.sess = true) : CommandDone s .rekey (ok (resetMsg
      { clearKeyStage s with S := buildState s.keybuf (nonceBytesOf s.S) }))
  | renonce (hs : s.sess = true) : CommandDone s .renonce (ok (resetMsg
      { clearNonceStage s with S := buildState (keyBytesOf s.S) s.noncebuf }))
  | start (hs : s.sess = true) : CommandDone s .start (ok
      { clearKeystream { s with S := s.S.set 12 0 } with ctrwrap := false, msg := true })
  | endMsg : CommandDone s .endMsg (ok (clearKeystream { s with msg := false }))
  | clrstage : CommandDone s .clrstage (ok (clearNonceStage (clearKeyStage s)))
  | clear : CommandDone s .clear (ok { clearNonceStage (clearKeyStage (resetMsg
      { s with S := Vector.replicate 16 0, sess := false })) with dout := 0 })
  | clrerr : CommandDone s .clrerr (ok (clearErrorFlag s))

/-- The instruction is the row of the command, or the CMD write of its word. -/
def Issues (i : Instr) (k : Command) : Prop := i = Instr.ofCommand k ∨ i = .wrCmd k.word

/-- The instruction is one of the two data writes. -/
def IsDataWrite (i : Instr) : Prop := ∃ w, i = .wrDataB w ∨ i = .wrDataW w

/-- A staging buffer after one more byte: it is stored at the count while there is room (R100, R101). -/
def appendByte {n : Nat} (buf : Vector Byte n) (cnt : BitVec 6) (b : Byte) : Vector Byte n :=
  if h : cnt.toNat < n then buf.set cnt.toNat b h else buf

/-- What an instruction does: it raises an error; or its command is done; or it is a register access; or it is a data
write that combines, with the keystream at hand or across a new block. -/
inductive Effect (s : State) : Instr → State → Prop
  | raised {i : Instr} {t : State} (h : RaisedFrom True True s t) : Effect s i t
  | command {i : Instr} {k : Command} {u : State} (hi : Issues i k) (h : CommandDone s k u) :
      Effect s i { u with bus := .writeDone }
  | read (r : Reg) : Effect s (decodeRead r) { s with bus := .readDone (readRegister r s) }
  | ignored {r : Reg} (hr : r.access = .readOnly ∨ r.access = .reserved) (w : Word) :
      Effect s (decodeWrite r w) { s with bus := .writeDone }
  | control (w : Word) : Effect s (.wrCtrl w) { s with ovffail := ovffailOperand w, bus := .writeDone }
  | keyIn (w : Word) : Effect s (.wrKeyIn w)
      { s with keybuf := appendByte s.keybuf s.keycnt (byteOperand w), keycnt := countUp s.keycnt, bus := .writeDone }
  | nonceIn (w : Word) : Effect s (.wrNonceIn w)
      { s with noncebuf := appendByte s.noncebuf s.noncecnt (byteOperand w), noncecnt := countUp s.noncecnt
               bus := .writeDone }
  | combined {i : Instr} (hi : IsDataWrite i) (hm : s.msg = true) (hp : s.ksptr ≠ 64) (p : Fin 65) (v : Word) :
      Effect s i { s with ksptr := p, dout := v, result := 0, bus := .writeDone }
  | combinedAcross {i : Instr} (hi : IsDataWrite i) (hm : s.msg = true) (p : Fin 65) (v : Word) :
      Effect s i { genBlock s with ksptr := p, dout := v, result := 0, bus := .writeDone }

/-! ### Every instruction completes, with its effect -/

/-- The row of a command raises an error, or the command is done. -/
theorem exec_ofCommand_done (k : Command) (s : State) :
    ∃ t, exec (Instr.ofCommand k) s = .next t ∧
      (RaisedFrom True True s t ∨ ∃ u, CommandDone s k u ∧ t = { u with bus := .writeDone }) := by
  cases k with
  | session =>
    obtain ⟨-, e⟩ | ⟨-, -, e⟩ | ⟨-, -, e⟩ := exec_session_cases s
    · exact ⟨_, e, .inl (.both _ trivial trivial)⟩
    · exact ⟨_, e, .inl (.both _ trivial trivial)⟩
    · exact ⟨_, e, .inr ⟨_, .session, rfl⟩⟩
  | rekey =>
    obtain ⟨-, e⟩ | ⟨-, -, e⟩ | ⟨hs, -, e⟩ := exec_rekey_cases s
    · exact ⟨_, e, .inl (.key _ trivial)⟩
    · exact ⟨_, e, .inl (.key _ trivial)⟩
    · exact ⟨_, e, .inr ⟨_, .rekey hs, rfl⟩⟩
  | renonce =>
    obtain ⟨-, e⟩ | ⟨-, -, e⟩ | ⟨hs, -, e⟩ := exec_renonce_cases s
    · exact ⟨_, e, .inl (.nonce _ trivial)⟩
    · exact ⟨_, e, .inl (.nonce _ trivial)⟩
    · exact ⟨_, e, .inr ⟨_, .renonce hs, rfl⟩⟩
  | start =>
    obtain ⟨-, e⟩ | ⟨hs, e⟩ := exec_start_cases s
    · exact ⟨_, e, .inl (.unstaged _)⟩
    · exact ⟨_, e, .inr ⟨_, .start hs, rfl⟩⟩
  | nop => exact ⟨_, rfl, .inr ⟨_, .nop, rfl⟩⟩
  | endMsg => exact ⟨_, rfl, .inr ⟨_, .endMsg, rfl⟩⟩
  | clrstage => exact ⟨_, rfl, .inr ⟨_, .clrstage, rfl⟩⟩
  | clear => exact ⟨_, rfl, .inr ⟨_, .clear, rfl⟩⟩
  | clrerr => exact ⟨_, rfl, .inr ⟨_, .clrerr, rfl⟩⟩

/-- An instruction that issues a command has the effect of its row. -/
theorem exec_effect_of_issues {i : Instr} {k : Command} (hi : Issues i k) (s : State) :
    ∃ t, exec i s = .next t ∧ Effect s i t := by
  have hrow : exec i s = exec (Instr.ofCommand k) s := by
    obtain rfl | rfl := hi
    · rfl
    · exact exec_wrCmd_word k s
  obtain ⟨t, e, hraised | ⟨u, hdone, rfl⟩⟩ := exec_ofCommand_done k s
  · exact ⟨t, hrow.trans e, .raised hraised⟩
  · exact ⟨_, hrow.trans e, .command hi hdone⟩

theorem exec_effect_wrCmd (c : Word) (s : State) : ∃ t, exec (.wrCmd c) s = .next t ∧ Effect s (.wrCmd c) t := by
  obtain ⟨k, rfl, -⟩ | hillegal := command_or_illegal c
  · exact exec_effect_of_issues (.inr rfl) s
  · exact ⟨_, (exec_wrCmd c s).trans (by rw [hillegal]; rfl), .raised (.unstaged .illegalCommand)⟩

theorem exec_effect_wrDataB (w : Word) (s : State) : ∃ t, exec (.wrDataB w) s = .next t ∧ Effect s (.wrDataB w) t := by
  have hi : IsDataWrite (.wrDataB w) := ⟨w, .inl rfl⟩
  obtain ⟨-, e⟩ | ⟨-, -, -, e⟩ | ⟨hm, hp, e⟩ | ⟨hm, -, -, e⟩ := exec_wrDataB_cases w s
  · exact ⟨_, e, .raised (.unstaged _)⟩
  · exact ⟨_, e, .raised (.unstaged _)⟩
  · exact ⟨_, e, .combined hi hm (Fin.ne_of_lt hp) _ _⟩
  · exact ⟨_, e, .combinedAcross hi hm _ _⟩

theorem exec_effect_wrDataW (w : Word) (s : State) : ∃ t, exec (.wrDataW w) s = .next t ∧ Effect s (.wrDataW w) t := by
  have hi : IsDataWrite (.wrDataW w) := ⟨w, .inr rfl⟩
  obtain ⟨-, e⟩ | ⟨-, -, -, e⟩ | ⟨hm, hp, e⟩ | ⟨hm, -, _, e⟩ := exec_wrDataW_cases w s
  · exact ⟨_, e, .raised (.unstaged _)⟩
  · exact ⟨_, e, .raised (.unstaged _)⟩
  · exact ⟨_, e, .combined hi hm (fun h64 => absurd hp (by rw [h64]; decide)) _ _⟩
  · exact ⟨_, e, .combinedAcross hi hm _ _⟩

/-- Every instruction answers a next state, in every state, and has one of the effects. -/
theorem exec_effect (i : Instr) (s : State) : ∃ t, exec i s = .next t ∧ Effect s i t := by
  cases row_total i with
  | command k => exact exec_effect_of_issues (.inl rfl) s
  | illegal c => exact ⟨_, exec_illegalCmd c s, .raised (.unstaged .illegalCommand)⟩
  | read r => exact ⟨_, exec_decodeRead r s, .read r⟩
  | write r w =>
    cases r with
    | ctrl => exact ⟨_, rfl, .control w⟩
    | cmd => exact exec_effect_wrCmd w s
    | keyIn => exact ⟨_, rfl, .keyIn w⟩
    | nonceIn => exact ⟨_, rfl, .nonceIn w⟩
    | dataB => exact exec_effect_wrDataB w s
    | dataW => exact exec_effect_wrDataW w s
    | status | ctr | stage | dout => exact ⟨_, rfl, .ignored (.inl rfl) w⟩
    | rsv1C | rsv2C | rsv30 | rsv34 | rsv38 | rsv3C => exact ⟨_, rfl, .ignored (.inr rfl) w⟩

theorem effect_of_exec {i : Instr} {s t : State} (h : exec i s = .next t) : Effect s i t := by
  obtain ⟨u, hu, heff⟩ := exec_effect i s
  cases hu.symm.trans h
  exact heff

/-! ### Completion (R71, R217) -/

/-- No instruction touches the host's further inputs or the record of a reset, and each completes on the port. -/
theorem Effect.port {s t : State} {i : Instr} (h : Effect s i t) :
    t.bus.ready = some true ∧ t.inputs = s.inputs ∧ t.resetDone = s.resetDone := by
  cases h with
  | raised h =>
    rw [h.frame]
    exact ⟨rfl, rfl, rfl⟩
  | command _ h => cases h <;> exact ⟨rfl, rfl, rfl⟩
  | _ => exact ⟨rfl, rfl, rfl⟩

/-- After reset every step answers a next state and takes one input, where there is one. -/
theorem step_completes {s : State} (h : s.resetDone = true) :
    ∃ t, step s = .next t ∧ t.resetDone = true ∧ t.inputs = s.inputs.tail := by
  cases hi : s.inputs with
  | nil => exact ⟨_, step_of_no_input hi, h, hi⟩
  | cons x rest =>
    cases x with
    | reset held => exact ⟨_, step_of_reset_input hi, rfl, rfl⟩
    | transact tr =>
      obtain ⟨t, e, heff⟩ := exec_effect (decodeTransaction tr) { s with inputs := rest }
      obtain ⟨-, hinputs, hreset⟩ := heff.port
      exact ⟨t, (stepRunsTheRowOfTheTransaction tr s rest h hi).trans e, hreset.trans h, hinputs⟩

/-- Settles O7: every instruction has an effect, and a step runs one, resets or idles. -/
theorem everyTransactionCompletes : Obligations.EveryTransactionCompletes := by
  refine ⟨fun i s => ?_, fun s h => step_completes h⟩
  obtain ⟨t, e, heff⟩ := exec_effect i s
  obtain ⟨hready, hinputs, -⟩ := heff.port
  exact ⟨t, e, hready, hinputs⟩

/-! ### The writers of the block counter, the flags, CTRL and DOUT -/

/-- The two instructions that issue a command, in the lists of the statements: rows first, then CMD writes. -/
theorem Issues.mem {i : Instr} {k : Command} (hi : Issues i k) {ks : List Command} (hk : k ∈ ks) :
    i ∈ ks.map Instr.ofCommand ++ ks.map fun k => .wrCmd k.word := by
  obtain rfl | rfl := hi
  · exact List.mem_append_left _ (List.mem_map_of_mem hk)
  · exact List.mem_append_right _ (List.mem_map_of_mem (f := fun k => Instr.wrCmd k.word) hk)

/-- What a command that succeeds leaves in the block counter. -/
theorem CommandDone.counter {s u : State} {k : Command} (h : CommandDone s k u) :
    u.S[12] = s.S[12] ∨ (u.S[12] = 0 ∧ k ∈ [.start, .session, .rekey, .renonce, .clear]) := by
  cases h with
  | session => exact .inr ⟨rfl, by decide⟩
  | rekey => exact .inr ⟨rfl, by decide⟩
  | renonce => exact .inr ⟨rfl, by decide⟩
  | start => exact .inr ⟨by simp, by decide⟩
  | clear => exact .inr ⟨rfl, by decide⟩
  | nop | endMsg | clrstage | clrerr => exact .inl rfl

theorem CommandDone.result {s u : State} {k : Command} (h : CommandDone s k u) : u.result = 0 := by
  cases h <;> rfl

/-- Settles O17: the commands that start a message or replace the cipher state set the counter to 0, a new block
advances it, and no other effect writes it. -/
theorem blockCounterWriters : Obligations.BlockCounterWriters := by
  intro i s t hexec
  cases effect_of_exec hexec with
  | raised h => exact .inl (by rw [h.frame])
  | command hi h =>
    exact h.counter.imp_right fun ⟨h0, hk⟩ => .inl ⟨h0, h.result, hi.mem hk⟩
  | combinedAcross hi hm => exact .inr (.inr ⟨by simp, rfl, hm, hi⟩)
  | _ => exact .inl rfl

theorem CommandDone.sess {s u : State} {k : Command} (h : CommandDone s k u) :
    u.sess = s.sess ∨ (u.sess = true ∧ k ∈ [.session]) ∨ (u.sess = false ∧ k ∈ [.clear]) := by
  cases h with
  | session => exact .inr (.inl ⟨rfl, by decide⟩)
  | clear => exact .inr (.inr ⟨rfl, by decide⟩)
  | _ => exact .inl rfl

theorem CommandDone.msg {s u : State} {k : Command} (h : CommandDone s k u) :
    u.msg = s.msg ∨ (u.msg = true ∧ k ∈ [.start]) ∨
      (u.msg = false ∧ k ∈ [.endMsg, .session, .rekey, .renonce, .clear]) := by
  cases h with
  | start => exact .inr (.inl ⟨rfl, by decide⟩)
  | endMsg | session | rekey | renonce | clear => exact .inr (.inr ⟨rfl, by decide⟩)
  | nop | clrstage | clrerr => exact .inl rfl

/-- Settles O18: only commands that succeed write SESS and MSG. -/
theorem sessionAndMessageFlagWriters : Obligations.SessionAndMessageFlagWriters := by
  intro i s t hexec
  cases effect_of_exec hexec with
  | raised h =>
    rw [h.frame]
    exact ⟨.inl rfl, .inl rfl⟩
  | command hi h =>
    have h0 := h.result
    exact ⟨h.sess.imp_right (.imp (fun ⟨hs, hk⟩ => ⟨hs, h0, hi.mem hk⟩) fun ⟨hs, hk⟩ => ⟨hs, hi.mem hk⟩),
      h.msg.imp_right (.imp (fun ⟨hm, hk⟩ => ⟨hm, h0, hi.mem hk⟩) fun ⟨hm, hk⟩ => ⟨hm, h0, hi.mem hk⟩)⟩
  | _ => exact ⟨.inl rfl, .inl rfl⟩

theorem CommandDone.ctrwrap {s u : State} {k : Command} (h : CommandDone s k u) :
    u.ctrwrap = s.ctrwrap ∨ (u.ctrwrap = false ∧ k ∈ [.start, .session, .rekey, .renonce, .clear]) := by
  cases h with
  | start | session | rekey | renonce | clear => exact .inr ⟨rfl, by decide⟩
  | nop | endMsg | clrstage | clrerr => exact .inl rfl

/-- A new block sets CTRWRAP exactly where the counter carries, from 0xFFFFFFFF to 0 (R138). -/
theorem genBlock_ctrwrap_cases (s : State) :
    (genBlock s).ctrwrap = s.ctrwrap ∨
      ((genBlock s).ctrwrap = true ∧ s.S[12] = 0xFFFFFFFF ∧ (genBlock s).S[12] = 0) := by
  cases hc : counterCarries s.S[12] with
  | false => exact .inl (by simp [hc])
  | true =>
    have hmax : s.S[12] = 0xFFFFFFFF := of_decide_eq_true hc
    exact .inr ⟨by simp [hc], hmax, by simp [hmax]⟩

/-- Settles O19: a new block sets CTRWRAP at the carry; the commands that start a message or replace the cipher state
clear it. -/
theorem wrapFlagWriters : Obligations.WrapFlagWriters := by
  intro i s t hexec
  cases effect_of_exec hexec with
  | raised h => exact .inl (by rw [h.frame])
  | command hi h => exact h.ctrwrap.imp_right fun ⟨hw, hk⟩ => .inr ⟨hw, h.result, hi.mem hk⟩
  | combinedAcross hi =>
    exact (genBlock_ctrwrap_cases s).imp_right fun ⟨hw, hmax, h0⟩ => .inl ⟨hw, hmax, h0, hi⟩
  | _ => exact .inl rfl

theorem CommandDone.ovffail {s u : State} {k : Command} (h : CommandDone s k u) : u.ovffail = s.ovffail := by
  cases h <;> rfl

theorem CommandDone.dout {s u : State} {k : Command} (h : CommandDone s k u) :
    u.dout = s.dout ∨ (u.dout = 0 ∧ k ∈ [.clear]) := by
  cases h with
  | clear => exact .inr ⟨rfl, by decide⟩
  | _ => exact .inl rfl

/-- Settles O20: OVFFAIL is written by the CTRL write alone, DOUT by the data writes that combine and by CLEAR. -/
theorem controlAndOutputWriters : Obligations.ControlAndOutputWriters := by
  intro i s t hexec
  cases effect_of_exec hexec with
  | raised h =>
    rw [h.frame]
    exact ⟨.inl rfl, .inl rfl⟩
  | command hi h => exact ⟨.inl h.ovffail, h.dout.imp_right fun ⟨h0, hk⟩ => .inl ⟨h0, hi.mem hk⟩⟩
  | control w => exact ⟨.inr ⟨w, rfl⟩, .inl rfl⟩
  | combined hi => exact ⟨.inl rfl, .inr (.inr ⟨rfl, hi⟩)⟩
  | combinedAcross hi => exact ⟨.inl rfl, .inr (.inr ⟨rfl, hi⟩)⟩
  | _ => exact ⟨.inl rfl, .inl rfl⟩

end Sys2Proof.Proofs

/-! PROOFS. The invariants of the core (`10_state.md` R25, and R27, R28, R33, R35, R210, R211): they hold after reset,
each operation keeps them, and so does every step. And what the staged bytes are (R25 e). -/

namespace Sys2Proof.Proofs
open Sys2Proof.Machine Sys2Proof.Laws

/-- Settles O12: after reset there is no session, no message, no error, and every buffer is 0. -/
theorem invariantsHoldAfterReset : Obligations.InvariantsHoldAfterReset where
  zeroOutsideSession _ := rfl
  constantsInSession := nofun
  messageInSession := nofun
  noKeystreamOutsideMessage _ := ⟨rfl, rfl⟩
  keyStagePadded _ _ := Vector.getElem_replicate _
  nonceStagePadded _ _ := Vector.getElem_replicate _
  wrapInSession := nofun
  resultDefined := Nat.zero_le 6
  errorRecorded h := absurd rfl h
  pipelineIdle := rfl
  keystreamCurrent := nofun

/-! ### Staging buffers -/

/-- The buffer holds the first of the bytes `bs`, with 0 after them, and the count is how many they are, saturating at
63 (R29, R30). -/
structure Holds {n : Nat} (bs : List Byte) (buf : Vector Byte n) (cnt : BitVec 6) : Prop where
  count : cnt.toNat = min bs.length 63
  get : ∀ i : Fin n, buf[i] = bs.getD i.val 0

theorem holds_nil (n : Nat) : Holds [] (Vector.replicate n 0) 0 :=
  ⟨rfl, fun _ => Vector.getElem_replicate _⟩

theorem appendByte_get {n : Nat} (buf : Vector Byte n) (cnt : BitVec 6) (b : Byte) (i : Fin n) :
    (appendByte buf cnt b)[i] = if cnt.toNat = i.val then b else buf[i] := by
  unfold appendByte
  split
  · exact Vector.getElem_set ..
  · rw [if_neg (by omega)]

/-- One more byte (R100, R101): no buffer is longer than the count can tell. -/
theorem Holds.append {n : Nat} (hn : n ≤ 63) {bs : List Byte} {buf : Vector Byte n} {cnt : BitVec 6}
    (h : Holds bs buf cnt) (b : Byte) : Holds (bs ++ [b]) (appendByte buf cnt b) (countUp cnt) := by
  have hcount := h.count
  refine ⟨?_, fun i => ?_⟩
  · rw [countUp_toNat, List.length_append, List.length_singleton]
    omega
  · have hi : i.val < 63 := by omega
    rw [appendByte_get, h.get]
    by_cases hlt : i.val < bs.length
    · rw [if_neg (by omega), List.getD_append _ _ _ _ hlt]
    · rw [List.getD_append_right _ _ _ _ (by omega)]
      by_cases heq : i.val = bs.length
      · rw [if_pos (by omega), heq, Nat.sub_self, List.getD_cons_zero]
      · rw [if_neg (by omega), List.getD_eq_default _ _ (by omega), List.getD_eq_default _ _ (by simp; omega)]

/-- Key bytes staged after others. -/
theorem stageKeyBytes_holds {before : List Byte} (bs : List Byte) {s : State}
    (h : Holds before s.keybuf s.keycnt) :
    ∃ t, stageKeyBytes bs s = .next t ∧ Holds (before ++ bs) t.keybuf t.keycnt ∧
      t = { s with keybuf := t.keybuf, keycnt := t.keycnt, bus := t.bus } := by
  induction bs generalizing before s with
  | nil => exact ⟨s, rfl, by rwa [List.append_nil], rfl⟩
  | cons b bs ih =>
    have h' := h.append (by decide) b
    rw [← byteOf_zext32 b] at h'
    obtain ⟨t, ht, hholds, hframe⟩ := ih (s := { s with
      keybuf := appendByte s.keybuf s.keycnt (byteOperand (zext32 b)), keycnt := countUp s.keycnt
      bus := .writeDone }) h'
    exact ⟨t, ht, by simpa using hholds, hframe⟩

/-- Nonce bytes staged after others. -/
theorem stageNonceBytes_holds {before : List Byte} (bs : List Byte) {s : State}
    (h : Holds before s.noncebuf s.noncecnt) :
    ∃ t, stageNonceBytes bs s = .next t ∧ Holds (before ++ bs) t.noncebuf t.noncecnt ∧
      t = { s with noncebuf := t.noncebuf, noncecnt := t.noncecnt, bus := t.bus } := by
  induction bs generalizing before s with
  | nil => exact ⟨s, rfl, by rwa [List.append_nil], rfl⟩
  | cons b bs ih =>
    have h' := h.append (by decide) b
    rw [← byteOf_zext32 b] at h'
    obtain ⟨t, ht, hholds, hframe⟩ := ih (s := { s with
      noncebuf := appendByte s.noncebuf s.noncecnt (byteOperand (zext32 b)), noncecnt := countUp s.noncecnt
      bus := .writeDone }) h'
    exact ⟨t, ht, by simpa using hholds, hframe⟩

/-- Settles O34: a cleared stage holds no bytes, and each write appends one. -/
theorem stagedBytesAreTheFirstWritten : Obligations.StagedBytesAreTheFirstWritten := by
  refine ⟨fun bs s hcnt hbuf => ?_, fun bs s hcnt hbuf => ?_⟩
  · obtain ⟨t, ht, hholds, hframe⟩ := stageKeyBytes_holds (before := []) bs (by rw [hcnt, hbuf]; exact holds_nil 32)
    exact ⟨t, ht, hholds.count, hholds.get, hframe⟩
  · obtain ⟨t, ht, hholds, hframe⟩ := stageNonceBytes_holds (before := []) bs (by rw [hcnt, hbuf]; exact holds_nil 12)
    exact ⟨t, ht, hholds.count, hholds.get, hframe⟩

/-- A byte is stored at the count, below the new count, so the buffer stays 0 past its count (R25 e). -/
theorem appendByte_padded {n : Nat} (hn : n ≤ 63) {buf : Vector Byte n} {cnt : BitVec 6}
    (h : ∀ i : Fin n, cnt.toNat ≤ i.val → buf[i] = 0) (b : Byte) (i : Fin n) (hi : (countUp cnt).toNat ≤ i.val) :
    (appendByte buf cnt b)[i] = 0 := by
  rw [countUp_toNat] at hi
  rw [appendByte_get, if_neg (by omega), h i (by omega)]

end Sys2Proof.Proofs

namespace Sys2Proof.Machine
open Sys2Proof.Laws Sys2Proof.Proofs

/-! ### Each operation keeps the invariants -/

section
variable {s : State} (h : Inv s)
include h

/-- The invariants do not speak of X, CTRL, DOUT, the port or the model's own fields. -/
theorem Inv.of_unconstrained (X : Vector Word 16) (o : Bool) (v : Word) (b : BusOut) (l : List HostInput) (r : Bool)
    (n : Nat) : Inv { s with X := X, ovffail := o, dout := v, bus := b, inputs := l, resetDone := r, xDraws := n } :=
  { h with }

theorem Inv.raise (e : ErrorCode) : Inv (raise e s) :=
  { h with resultDefined := code_le_six e, errorRecorded := fun _ => rfl }

theorem Inv.ok : Inv (ok s) :=
  { h with resultDefined := Nat.zero_le 6, errorRecorded := fun h0 => absurd rfl h0 }

/-- CLRERR clears RESULT with the flag. -/
theorem Inv.ok_clearErrorFlag : Inv (Machine.ok (clearErrorFlag s)) :=
  { h with resultDefined := Nat.zero_le 6, errorRecorded := fun h0 => absurd rfl h0 }

theorem Inv.clearKeyStage : Inv (clearKeyStage s) :=
  { h with keyStagePadded := fun _ _ => Vector.getElem_replicate _ }

theorem Inv.clearNonceStage : Inv (clearNonceStage s) :=
  { h with nonceStagePadded := fun _ _ => Vector.getElem_replicate _ }

theorem Inv.appendKeyByte (b : Byte) :
    Inv { s with keybuf := appendByte s.keybuf s.keycnt b, keycnt := countUp s.keycnt } :=
  { h with keyStagePadded := appendByte_padded (by decide) h.keyStagePadded b }

theorem Inv.appendNonceByte (b : Byte) :
    Inv { s with noncebuf := appendByte s.noncebuf s.noncecnt b, noncecnt := countUp s.noncecnt } :=
  { h with nonceStagePadded := appendByte_padded (by decide) h.nonceStagePadded b }

/-- The keystream is discarded with the message (R162). -/
theorem Inv.endMessage : Inv (clearKeystream { s with msg := false }) :=
  { h with
    messageInSession := nofun
    noKeystreamOutsideMessage := fun _ => ⟨rfl, rfl⟩
    keystreamCurrent := nofun }

/-- A rebuilt state has the constants of R21, in a session (R105 to R107). -/
theorem Inv.rebuild {b : Bool} (hb : b = true) (k : Vector Byte 32) (n : Vector Byte 12) :
    Inv (resetMsg { s with S := buildState k n, sess := b }) :=
  { h with
    zeroOutsideSession := fun hf => absurd (hb.symm.trans hf) nofun
    constantsInSession := fun _ => ⟨rfl, rfl, rfl, rfl⟩
    messageInSession := nofun
    noKeystreamOutsideMessage := fun _ => ⟨rfl, rfl⟩
    wrapInSession := nofun
    keystreamCurrent := nofun }

/-- CLEAR zeroizes S with the session (R109). -/
theorem Inv.zeroize : Inv (resetMsg { s with S := Vector.replicate 16 0, sess := false }) :=
  { h with
    zeroOutsideSession := fun _ => rfl
    constantsInSession := nofun
    messageInSession := nofun
    noKeystreamOutsideMessage := fun _ => ⟨rfl, rfl⟩
    wrapInSession := nofun
    keystreamCurrent := nofun }

/-- The counter is none of the constant words. -/
theorem Inv.constants_set_counter (c : Word) : ConstantsInSession { s with S := s.S.set 12 c } :=
  fun hs => by simpa using h.constantsInSession hs

/-- A message starts with the keystream buffer empty (R161). -/
theorem Inv.startMessage (hs : s.sess = true) :
    Inv { clearKeystream { s with S := s.S.set 12 0 } with ctrwrap := false, msg := true } :=
  { h with
    zeroOutsideSession := fun hf => absurd (hs.symm.trans hf) nofun
    constantsInSession := h.constants_set_counter 0
    messageInSession := fun _ => hs
    noKeystreamOutsideMessage := nofun
    wrapInSession := nofun
    keystreamCurrent := fun _ hp => absurd rfl hp }

/-- Within a block KS stays and KSPTR moves on (R163). -/
theorem Inv.movePointer (hm : s.msg = true) (hp : s.ksptr ≠ 64) (p : Fin 65) : Inv { s with ksptr := p } :=
  { h with
    noKeystreamOutsideMessage := fun hf => absurd (hm.symm.trans hf) nofun
    keystreamCurrent := fun _ _ => h.keystreamCurrent hm hp }

/-- A new block is that of the counter before its advance (R139). -/
theorem Inv.genBlock (hm : s.msg = true) (p : Fin 65) : Inv { genBlock s with ksptr := p } :=
  have hs : s.sess = true := h.messageInSession hm
  { h with
    zeroOutsideSession := fun hf => absurd (hs.symm.trans hf) nofun
    constantsInSession := h.constants_set_counter _
    noKeystreamOutsideMessage := fun hf => absurd (hm.symm.trans hf) nofun
    wrapInSession := fun _ => hs
    pipelineIdle := rfl
    keystreamCurrent := fun _ _ => by simp }

end

end Sys2Proof.Machine

namespace Sys2Proof.Proofs
open Sys2Proof.Machine Sys2Proof.Laws

/-! ### Every step keeps the invariants -/

theorem RaisedFrom.inv {p q : Prop} {s t : State} (h : Inv s) (hraised : RaisedFrom p q s t) : Inv t := by
  cases hraised with
  | unstaged e => exact (h.raise e).of_unconstrained ..
  | key e => exact (h.clearKeyStage.raise e).of_unconstrained ..
  | nonce e => exact (h.clearNonceStage.raise e).of_unconstrained ..
  | both e => exact (h.clearKeyStage.clearNonceStage.raise e).of_unconstrained ..

theorem CommandDone.inv {s u : State} {k : Command} (h : Inv s) (hdone : CommandDone s k u) : Inv u := by
  cases hdone with
  | nop => exact h.ok
  | session => exact (h.clearKeyStage.clearNonceStage.rebuild rfl _ _).ok
  | rekey hs => exact (h.clearKeyStage.rebuild hs _ _).ok
  | renonce hs => exact (h.clearNonceStage.rebuild hs _ _).ok
  | start hs => exact (h.startMessage hs).ok
  | endMsg => exact h.endMessage.ok
  | clrstage => exact h.clearKeyStage.clearNonceStage.ok
  | clear => exact (h.zeroize.clearKeyStage.clearNonceStage.of_unconstrained ..).ok
  | clrerr => exact h.ok_clearErrorFlag

theorem Effect.inv {s t : State} {i : Instr} (h : Inv s) (heff : Effect s i t) : Inv t := by
  cases heff with
  | raised hraised => exact hraised.inv h
  | command _ hdone => exact (hdone.inv h).of_unconstrained ..
  | read | ignored | control => exact h.of_unconstrained ..
  | keyIn w => exact (h.appendKeyByte _).of_unconstrained ..
  | nonceIn w => exact (h.appendNonceByte _).of_unconstrained ..
  | combined _ hm hp p => exact (h.movePointer hm hp p).ok.of_unconstrained ..
  | combinedAcross _ hm p => exact (h.genBlock hm p).ok.of_unconstrained ..

/-- Settles O13: a step idles, resets, or has the effect of one instruction. -/
theorem stepKeepsTheInvariants : Obligations.StepKeepsTheInvariants := by
  intro s t h hstep
  obtain ⟨-, rfl⟩ | ⟨_, _, -, rfl⟩ | ⟨tr, _, -, -, hexec⟩ := step_cases hstep
  · exact h.of_unconstrained ..
  · exact invariantsHoldAfterReset.of_unconstrained ..
  · exact (effect_of_exec hexec).inv (h.of_unconstrained ..)

end Sys2Proof.Proofs

/-! PROOFS. Register reads (`20_memory.md` R58, `60_exceptions.md` R223) and the clear commands (`40_state_builder.md`
R108, R109). -/

namespace Sys2Proof.Proofs
open Sys2Proof.Machine Sys2Proof.Laws

/-- Settles O29: a read shows the register's value, which the port is no part of. -/
theorem readsAreIdempotent : Obligations.ReadsAreIdempotent := by
  intro i s h
  obtain ⟨r, rfl⟩ := eq_decodeRead_of_isRead h
  exact ⟨_, exec_decodeRead r s, by simp only [exec_decodeRead, readRegister_bus]⟩

/-- Every register is made of what states that look alike agree on. -/
theorem LookAlike.readRegister_eq {s t : State} (h : LookAlike s t) (r : Reg) :
    readRegister r s = readRegister r t := by
  obtain ⟨hovffail, hsess, hmsg, hctrwrap, herrf, hresult, hksptr, hctr, hkeycnt, hnoncecnt, hdout⟩ := h
  cases r with
  | ctrl => simp only [readRegister, ctrlWord, hovffail]
  | status => simp only [readRegister, statusWord, hsess, hmsg, hctrwrap, herrf, hresult, hksptr]
  | ctr => exact hctr
  | stage => simp only [readRegister, stageWord, hkeycnt, hnoncecnt]
  | dout => exact hdout
  | _ => rfl

/-- Settles O30: a read shows the value of a register, and nothing else. -/
theorem readsShowNoSecret : Obligations.ReadsShowNoSecret := by
  intro i s t s1 t1 hi h hs ht
  obtain ⟨r, rfl⟩ := eq_decodeRead_of_isRead hi
  cases (exec_decodeRead r s).symm.trans hs
  cases (exec_decodeRead r t).symm.trans ht
  exact congrArg BusOut.readDone (LookAlike.readRegister_eq h r)

/-- Settles O38: the clears that CLRSTAGE and CLEAR are made of, one after another. -/
theorem clearCommands : Obligations.ClearCommands :=
  ⟨encode_ofCommand .clrstage, encode_ofCommand .clear, fun _ => ⟨rfl, rfl⟩⟩

end Sys2Proof.Proofs

/-! PROOFS. The block engine (`41_block_engine.md`): rotation bit by bit (R11), and quarter-rounds on disjoint slots. -/

namespace Sys2Proof.Proofs
open Sys2Proof.Machine Sys2Proof.Laws

/-- Settles O55: a bit stays below bit 32 in the left shift, or wraps around in the right shift. -/
theorem rotationMovesEveryBit : Obligations.RotationMovesEveryBit := by
  intro v n i hpos hn hi
  by_cases hlow : i + n < 32
  · have hbeyond : 32 ≤ 32 - n + (i + n) := by omega
    simp [rotl, Nat.mod_eq_of_lt hlow, hlow, BitVec.getLsbD_of_ge _ _ hbeyond, BitVec.getLsbD_eq_getElem hi]
  · have hmod : (i + n) % 32 = i + n - 32 := by omega
    have hwrap : i + n - 32 < n := by omega
    have hback : 32 - n + (i + n - 32) = i := by omega
    simp [rotl, hmod, hwrap, hback]

/-! ### Quarter-rounds on disjoint slots (section 6) -/

section
variable {a b c d : Fin 16} (h : [a, b, c, d].Nodup)
include h

theorem quarterRound_get_other (X : Vector Word 16) {i : Fin 16} (hi : i ∉ [a, b, c, d]) :
    (quarterRound a b c d X)[i] = X[i] := by
  obtain ⟨-, -, -, -, hother⟩ := quarterRoundSteps a b c d X h
  exact hother i hi

/-- What a quarter-round writes depends on its own slots only. -/
theorem quarterRound_get_congr {X Y : Vector Word 16} (hXY : ∀ i ∈ [a, b, c, d], X[i] = Y[i]) {i : Fin 16}
    (hi : i ∈ [a, b, c, d]) : (quarterRound a b c d X)[i] = (quarterRound a b c d Y)[i] := by
  obtain ⟨hXa, hXb, hXc, hXd, -⟩ := quarterRoundSteps a b c d X h
  obtain ⟨hYa, hYb, hYc, hYd, -⟩ := quarterRoundSteps a b c d Y h
  simp only [List.forall_mem_cons] at hXY
  obtain ⟨ea, eb, ec, ed, -⟩ := hXY
  simp only [List.mem_cons, List.not_mem_nil, or_false] at hi
  obtain rfl | rfl | rfl | rfl := hi
  · simp only [hXa, hYa, ea, eb, ec, ed]
  · simp only [hXb, hYb, ea, eb, ec, ed]
  · simp only [hXc, hYc, ea, eb, ec, ed]
  · simp only [hXd, hYd, ea, eb, ec, ed]

end

/-- Neither of two quarter-rounds on disjoint slots reads or writes a slot of the other. -/
theorem quarterRound_commute {a b c d e f g h : Fin 16} (hnodup : [a, b, c, d, e, f, g, h].Nodup) :
    Function.Commute (quarterRound a b c d) (quarterRound e f g h) := by
  obtain ⟨h1, h2, hdisjoint⟩ := List.nodup_append.mp (show ([a, b, c, d] ++ [e, f, g, h]).Nodup from hnodup)
  have hnot1 {i : Fin 16} (hi : i ∈ [e, f, g, h]) : i ∉ [a, b, c, d] := fun hi' => hdisjoint i hi' i hi rfl
  have hnot2 {i : Fin 16} (hi : i ∈ [a, b, c, d]) : i ∉ [e, f, g, h] := fun hi' => hdisjoint i hi i hi' rfl
  intro X
  have hslot (i : Fin 16) : (quarterRound a b c d (quarterRound e f g h X))[i] =
      (quarterRound e f g h (quarterRound a b c d X))[i] := by
    by_cases hi1 : i ∈ [a, b, c, d]
    · rw [quarterRound_get_other h2 _ (hnot2 hi1)]
      exact quarterRound_get_congr h1 (fun j hj => quarterRound_get_other h2 X (hnot2 hj)) hi1
    rw [quarterRound_get_other h1 _ hi1]
    by_cases hi2 : i ∈ [e, f, g, h]
    · exact (quarterRound_get_congr h2 (fun j hj => quarterRound_get_other h1 X (hnot1 hj)) hi2).symm
    · rw [quarterRound_get_other h2 _ hi2, quarterRound_get_other h2 _ hi2, quarterRound_get_other h1 _ hi1]
  exact Vector.ext fun i hi => hslot ⟨i, hi⟩

/-- Four functions that commute with one another may run in reverse order. -/
theorem reverse_of_commute {α : Type} {f₁ f₂ f₃ f₄ : α → α} (h12 : Function.Commute f₁ f₂)
    (h13 : Function.Commute f₁ f₃) (h14 : Function.Commute f₁ f₄) (h23 : Function.Commute f₂ f₃)
    (h24 : Function.Commute f₂ f₄) (h34 : Function.Commute f₃ f₄) (x : α) :
    f₄ (f₃ (f₂ (f₁ x))) = f₁ (f₂ (f₃ (f₄ x))) := by
  rw [← h12, ← h13, ← h14, ← h23, ← h24, ← h34]

/-- Settles O40: the groups of a column round and of a diagonal round are disjoint. -/
theorem disjointQuarterRoundsCommute : Obligations.DisjointQuarterRoundsCommute := by
  refine ⟨fun a b c d e f g h X hnodup => quarterRound_commute hnodup X, fun X => ⟨?columns, ?diagonals⟩⟩
  case columns | diagonals =>
    refine reverse_of_commute ?_ ?_ ?_ ?_ ?_ ?_ X <;> exact quarterRound_commute (by decide)

end Sys2Proof.Proofs

/-! PROOFS. The data port (`42_stream_cipher.md`, `60_exceptions.md`, `70_reset_and_hazards.md`): DATA_W whole and as
four DATA_B writes, the data writes that cannot fail, the transactions that are held, and what the first output
bytes of a message depend on (R165, R172, R252). -/

namespace Sys2Proof.Proofs
open Sys2Proof.Machine Sys2Proof.Laws

/-! ### DATA_W (R165) -/

theorem byteOf_xorOutput (w : Word) (k : Fin 4 → Byte) (j : Fin 4) :
    byteOf (xorOutput w (k 0) (k 1) (k 2) (k 3)) j.val = byteOf w j.val ^^^ k j :=
  byteOf_le32 (fun j => byteOf w j.val ^^^ k j) j

/-- The word uses the next four bytes of the block at hand. -/
theorem exec_wrDataW_within (w : Word) (s : State) (hm : s.msg = true) (hp : s.ksptr.val ≤ 60) :
    exec (.wrDataW w) s =
      .next { s with ksptr := ⟨s.ksptr.val + 4, by omega⟩
                     dout := xorOutput w s.ks[s.ksptr.val] s.ks[s.ksptr.val + 1] s.ks[s.ksptr.val + 2]
                       s.ks[s.ksptr.val + 3]
                     result := 0, bus := .writeDone } := by
  obtain ⟨hf, -⟩ | ⟨-, hgt, -⟩ | ⟨-, _, e⟩ | ⟨-, -, hgt, -⟩ := exec_wrDataW_cases w s
  · exact absurd (hm.symm.trans hf) nofun
  · omega
  · exact e
  · omega

/-- The word uses what is left of the block at hand, and then the next block. -/
theorem exec_wrDataW_across (w : Word) (s : State) (hm : s.msg = true) (hp : 60 < s.ksptr.val)
    (ho : overflowRefused s = false) :
    exec (.wrDataW w) s =
      .next { genBlock s with ksptr := ⟨s.ksptr.val - 60, by omega⟩
                              dout := xorOutput w (nextKeystream s 0) (nextKeystream s 1) (nextKeystream s 2)
                                (nextKeystream s 3)
                              result := 0, bus := .writeDone } := by
  obtain ⟨hf, -⟩ | ⟨-, -, ht, -⟩ | ⟨-, hle, -⟩ | ⟨-, -, _, e⟩ := exec_wrDataW_cases w s
  · exact absurd (hm.symm.trans hf) nofun
  · exact absurd (ht.symm.trans ho) nofun
  · omega
  · exact e

theorem overflowRefused_of_false {s : State} (h : s.ctrwrap = false ∨ s.ovffail = false) :
    overflowRefused s = false := by
  obtain h | h := h <;> simp [overflowRefused, h]

/-- Settles O46: no message, a refused block request, a word within the block at hand, a word across its end. -/
theorem dataWordOutcomes : Obligations.DataWordOutcomes := by
  refine ⟨fun _ => rfl, fun w s => ⟨execWrDataW_of_no_message w s, fun hm hp hw ho => ?_, fun hm hp => ?_,
    fun hm hp hor => ?_⟩⟩
  · exact execWrDataW_of_overflow w s hm hp ((overflowRefused_of_wrapped hw).trans ho)
  · exact ⟨_, exec_wrDataW_within w s hm hp, rfl, fun j => ⟨_, Vector.getElem?_eq_getElem (by omega),
      byteOf_xorOutput w (fun j => s.ks[s.ksptr.val + j.val]) j⟩, rfl⟩
  · exact ⟨_, exec_wrDataW_across w s hm hp (overflowRefused_of_false hor), rfl, fun j =>
      ⟨_, Vector.getElem?_eq_getElem (by omega), byteOf_xorOutput w (fun j => nextKeystream s j.val) j⟩, rfl⟩

/-- Settles O48: with OVFFAIL = 0 no block request is refused. -/
theorem dataWritesCannotFailWhenWrapping : Obligations.DataWritesCannotFailWhenWrapping := by
  intro w s hm hfail
  have ho := overflowRefused_of_false (.inr hfail)
  refine ⟨?_, ?_⟩
  · obtain ⟨hf, -⟩ | ⟨-, -, ht, -⟩ | ⟨-, _, e⟩ | ⟨-, -, -, e⟩ := exec_wrDataB_cases w s
    · exact absurd (hm.symm.trans hf) nofun
    · exact absurd (ht.symm.trans ho) nofun
    · exact ⟨_, e, rfl, rfl⟩
    · exact ⟨_, e, rfl, rfl⟩
  · by_cases hp : s.ksptr.val ≤ 60
    · exact ⟨_, exec_wrDataW_within w s hm hp, rfl, rfl⟩
    · exact ⟨_, exec_wrDataW_across w s hm (by omega) ho, rfl, rfl⟩

/-! ### DATA_W as four DATA_B writes (R165) -/

/-- The end of a data write that succeeds: DOUT takes the output. -/
def wrote (v : Word) (s : State) : State := { s with dout := v, result := 0, bus := .writeDone }

/-- `XorByte` neither reads nor writes what the end of a data write does. -/
theorem xorByte_wrote (b : Byte) (v : Word) (s : State) :
    xorByte b (wrote v s) = ((xorByte b s).1, wrote v (xorByte b s).2) := by
  by_cases hp : s.ksptr.val < 64
  · rw [xorByte_of_lt b s hp, xorByte_of_lt b (wrote v s) hp]
    rfl
  · have hfull : s.ksptr = 64 := Fin.ext (by omega)
    rw [xorByte_of_full b s hfull, xorByte_of_full b (wrote v s) hfull]
    rfl

/-- The next `n` bytes of the open message are accepted: they lie within the block at hand, or a new one may be
generated. -/
structure Accepts (n : Nat) (s : State) : Prop where
  open_ : s.msg = true
  room : s.ksptr.val + n ≤ 64 ∨ overflowRefused s = false

/-- The first byte leaves the others accepted: a new block has room for them, whether or not its counter wrapped. -/
theorem Accepts.xorByte {n : Nat} {s : State} (h : Accepts (n + 1) s) (hn : n ≤ 63) (b : Byte) :
    Accepts n (xorByte b s).2 := by
  by_cases hp : s.ksptr.val < 64
  · rw [xorByte_of_lt b s hp]
    refine ⟨h.open_, h.room.imp_left fun hle => ?_⟩
    show s.ksptr.val + 1 + n ≤ 64
    omega
  · rw [xorByte_of_full b s (Fin.ext (by omega))]
    refine ⟨h.open_, .inl ?_⟩
    show 1 + n ≤ 64
    omega

/-- A DATA_B write of an accepted byte puts it through `XorByte` (R164). -/
theorem Accepts.dataByte {n : Nat} {s : State} (h : Accepts (n + 1) s) (hn : n ≤ 63) (b : Byte) :
    ∃ t, exec (.wrDataB (zext32 b)) s = .next t ∧ t = wrote (zext32 (Machine.xorByte b s).1) (Machine.xorByte b s).2 ∧
      Accepts n t := by
  obtain ⟨hm, hroom⟩ := h.xorByte hn b
  refine ⟨_, ?_, rfl, hm, hroom⟩
  show execWrDataB (zext32 b) s = _
  rw [execWrDataB_of_accepted _ s h.open_ (h.room.imp_left fun hle => by omega), byteOperand, byteOf_zext32]
  rfl

/-- Settles O47: the first byte is accepted with three more to come, and so on; what ends each write but the last does
not matter to the next byte. -/
theorem dataWordIsFourDataBytes : Obligations.DataWordIsFourDataBytes := by
  intro w s hm hpass
  have hroom : s.ksptr.val ≤ 60 ∨ overflowRefused s = false := by
    by_cases hp : s.ksptr.val ≤ 60
    · exact .inl hp
    · refine .inr (Bool.eq_false_iff.mpr fun ht => hpass ⟨by omega, ?_⟩)
      simpa [overflowRefused] using ht
  have h0 : Accepts 4 s := ⟨hm, hroom.imp_left fun hp => by omega⟩
  obtain ⟨_, e0, rfl, h1⟩ := h0.dataByte (by decide) (byteOf w 0)
  obtain ⟨_, e1, rfl, h2⟩ := h1.dataByte (by decide) (byteOf w 1)
  obtain ⟨_, e2, rfl, h3⟩ := h2.dataByte (by decide) (byteOf w 2)
  obtain ⟨_, e3, rfl, -⟩ := h3.dataByte (by decide) (byteOf w 3)
  refine ⟨_, _, _, _, _, e0, e1, e2, e3, rfl, rfl, rfl, rfl, execWrDataW_of_accepted w s hm hroom, ?_⟩
  simp only [xorByte_wrote]
  simp [xorWord, wordOperand, bytesLe, wrote, ok]

/-! ### What is held (R252) -/

theorem holdsForBlock_wrDataB_iff {w : Word} {s t : State} (h : exec (.wrDataB w) s = .next t) :
    holdsForBlock (.wrDataB w) s = true ↔ t.S[12] ≠ s.S[12] := by
  obtain ⟨hm, e⟩ | ⟨hm, hp, ho, e⟩ | ⟨hm, hp, e⟩ | ⟨hm, hp, ho, e⟩ := exec_wrDataB_cases w s <;> cases e.symm.trans h
  · simp [holdsForBlock, hm]
  · simp [holdsForBlock, ho]
  · simp [holdsForBlock, byteRequestsBlock, Fin.ext_iff, Nat.ne_of_lt hp]
  · simp [holdsForBlock, byteRequestsBlock, hm, hp, ho]

theorem holdsForBlock_wrDataW_iff {w : Word} {s t : State} (h : exec (.wrDataW w) s = .next t) :
    holdsForBlock (.wrDataW w) s = true ↔ t.S[12] ≠ s.S[12] := by
  obtain ⟨hm, e⟩ | ⟨hm, hp, ho, e⟩ | ⟨hm, hp, e⟩ | ⟨hm, ho, hp, e⟩ := exec_wrDataW_cases w s <;> cases e.symm.trans h
  · simp [holdsForBlock, hm]
  · simp [holdsForBlock, ho]
  · simp [holdsForBlock, wordRequestsBlock, Nat.not_lt.mpr hp]
  · simp [holdsForBlock, wordRequestsBlock, hm, hp, ho]

theorem isDataWrite_of_holdsForBlock {i : Instr} {s : State} (h : holdsForBlock i s = true) : IsDataWrite i := by
  cases i with
  | wrDataB w => exact ⟨w, .inl rfl⟩
  | wrDataW w => exact ⟨w, .inr rfl⟩
  | _ => exact absurd h Bool.false_ne_true

/-- Settles O54: a data write generates a block exactly where it advances the counter. -/
theorem holdsOnlyWhileABlockIsComputed : Obligations.HoldsOnlyWhileABlockIsComputed := by
  refine ⟨Nat.le_add_left _ _, Nat.le_add_left _ _, fun i s t h => ⟨fun hh => if_pos hh, fun hh => ?_, ?_⟩⟩
  · exact if_neg (Bool.eq_false_iff.mp hh)
  · constructor
    · intro hh
      obtain ⟨w, rfl | rfl⟩ := isDataWrite_of_holdsForBlock hh
      · exact ⟨⟨w, .inl rfl⟩, (holdsForBlock_wrDataB_iff h).mp hh⟩
      · exact ⟨⟨w, .inr rfl⟩, (holdsForBlock_wrDataW_iff h).mp hh⟩
    · rintro ⟨⟨w, rfl | rfl⟩, hne⟩
      · exact (holdsForBlock_wrDataB_iff h).mpr hne
      · exact (holdsForBlock_wrDataW_iff h).mpr hne

/-! ### Messages whose writes may be refused -/

theorem isRead_decodeRead (r : Reg) : isRead (decodeRead r) = true := by cases r <;> rfl

/-- Any write completes as a write, also where it is refused (R211, D2). -/
theorem exec_write_completes {i : Instr} (hi : isRead i = false) (s : State) :
    ∃ t, exec i s = .next t ∧ t.bus = .writeDone ∧ t.resetDone = s.resetDone := by
  obtain ⟨t, e, heff⟩ := exec_effect i s
  obtain ⟨-, -, hreset⟩ := heff.port
  refine ⟨t, e, ?_, hreset⟩
  cases heff with
  | raised h => rw [h.frame]
  | read r => exact absurd ((isRead_decodeRead r).symm.trans hi) nofun
  | _ => rfl

/-- A data write and the read of DOUT after it, in any state after reset. -/
theorem runSteps_dataWrite_completes (x : DataWrite) {s : State} (hr : s.resetDone = true) :
    ∃ v t, runSteps x.steps s = .next ⟨t, [v], true⟩ ∧ t.resetDone = true := by
  cases x with
  | byte b =>
    obtain ⟨t, e, hbus, hreset⟩ := exec_write_completes (i := .wrDataB (zext32 b)) rfl s
    exact ⟨_, _, runSteps_writeThenDout (r := .dataB) hr e hbus hreset rfl, hreset.trans hr⟩
  | word w =>
    obtain ⟨t, e, hbus, hreset⟩ := exec_write_completes (i := .wrDataW w) rfl s
    exact ⟨_, _, runSteps_writeThenDout (r := .dataW) hr e hbus hreset rfl, hreset.trans hr⟩

theorem runSteps_dataWrites_complete (ws : List DataWrite) {s : State} (hr : s.resetDone = true) :
    ∃ run, runSteps (ws.flatMap DataWrite.steps) s = .next run ∧ run.shown.length = ws.length ∧
      run.final.resetDone = true := by
  induction ws generalizing s with
  | nil => exact ⟨⟨s, [], true⟩, rfl, rfl, hr⟩
  | cons x xs ih =>
    obtain ⟨v, t, hrun, hr'⟩ := runSteps_dataWrite_completes x hr
    obtain ⟨run, hrun', hlen, hfinal⟩ := ih hr'
    exact ⟨_, runSteps_append hrun hrun', by simp [hlen], hfinal⟩

theorem runSteps_scriptMessage_completes (ws : List DataWrite) {s : State} (hr : s.resetDone = true) :
    ∃ run, runSteps (scriptMessage ws) s = .next run ∧ run.shown.length = ws.length ∧ run.final.resetDone = true := by
  obtain ⟨t, e, hbus, hreset⟩ := exec_write_completes (i := .wrCmd Command.start.word) rfl s
  obtain ⟨run, hrun, hrest⟩ := runSteps_dataWrites_complete ws (hreset.trans hr)
  exact ⟨run, runSteps_scriptWr (r := .cmd) hr e hbus hrun, hrest⟩

theorem scriptMessage_append (ws more : List DataWrite) :
    scriptMessage (ws ++ more) = scriptMessage ws ++ more.flatMap DataWrite.steps := by
  simp [scriptMessage]

/-! ### What the first output bytes of a message depend on (section 4) -/

theorem streamOf_append (a b : List DataWrite) : streamOf (a ++ b) = streamOf a ++ streamOf b :=
  List.flatMap_append

theorem outputOf_append {a b : List DataWrite} {x y : List Word} (h : a.length = x.length) :
    outputOf (a ++ b) (x ++ y) = outputOf a x ++ outputOf b y := by
  simp [outputOf, List.zip_append h]

theorem take_mapIdx {α β : Type} (f : Nat → α → β) (l : List α) (m : Nat) :
    (l.mapIdx f).take m = (l.take m).mapIdx f :=
  List.ext_getElem (by simp) fun i _ _ => by simp

/-- A data write carries one byte or four. -/
theorem length_stream_le (x : DataWrite) : x.stream.length ≤ 4 := by
  cases x <;> simp [DataWrite.stream]

/-- The first `m` bytes of a stream are carried by its first writes, which carry at most three more. -/
theorem exists_first_writes (m : Nat) (ws : List DataWrite) :
    ∃ a b, ws = a ++ b ∧ (streamOf a).length ≤ m + 3 ∧ (b = [] ∨ m ≤ (streamOf a).length) := by
  induction ws generalizing m with
  | nil => exact ⟨[], [], rfl, Nat.zero_le _, .inl rfl⟩
  | cons x xs ih =>
    have hx := length_stream_le x
    by_cases hzero : m = 0
    · exact ⟨[], x :: xs, rfl, Nat.zero_le _, .inr (by omega)⟩
    by_cases hlast : m ≤ x.stream.length
    · exact ⟨[x], xs, rfl, by simp [streamOf]; omega, .inr (by simpa [streamOf] using hlast)⟩
    · obtain ⟨a, b, rfl, hlen, hdone⟩ := ih (m - x.stream.length)
      refine ⟨x :: a, b, rfl, ?_, hdone.imp_right fun hle => ?_⟩ <;>
        · rw [streamOf_cons, List.length_append]
          omega

/-- The first `m` bytes are carried by writes that are accepted: by all of them, where no block request is refused
or the whole message is within the bound of R167. -/
theorem exists_accepted_writes {s : State} {m : Nat} {ws : List DataWrite}
    (hn : s.ovffail = false ∨ (streamOf ws).length ≤ 2 ^ 38 ∨ m + 3 ≤ 2 ^ 38) :
    ∃ a b, ws = a ++ b ∧ (s.ovffail = false ∨ (streamOf a).length ≤ 2 ^ 38) ∧
      (b = [] ∨ m ≤ (streamOf a).length) := by
  obtain ho | hlen | hm := hn
  · exact ⟨ws, [], (List.append_nil ws).symm, .inl ho, .inl rfl⟩
  · exact ⟨ws, [], (List.append_nil ws).symm, .inr hlen, .inl rfl⟩
  · obtain ⟨a, b, hws, hlen, hdone⟩ := exists_first_writes m ws
    exact ⟨a, b, hws, .inr (hlen.trans hm), hdone⟩

/-- The first `m` output bytes of a message are its first `m` bytes combined with the keystream, whatever follows. -/
theorem runSteps_scriptMessage_take {s : State} (hr : s.resetDone = true) (hs : s.sess = true) (m : Nat)
    (ws : List DataWrite) (hn : s.ovffail = false ∨ (streamOf ws).length ≤ 2 ^ 38 ∨ m + 3 ≤ 2 ^ 38) :
    ∃ run, runSteps (scriptMessage ws) s = .next run ∧ run.shown.length = ws.length ∧
      (outputOf ws run.shown).take m = ((streamOf ws).take m).mapIdx fun i d => d ^^^ streamByte s.S i := by
  obtain ⟨a, b, rfl, haccepted, hdone⟩ := exists_accepted_writes hn
  obtain ⟨t, hrun, -, hc⟩ := runSteps_scriptMessage hr hs a haccepted
  obtain ⟨rest, hrest, hlen, -⟩ := runSteps_dataWrites_complete b (hc.resetDone.trans hr)
  refine ⟨_, (congrArg (runSteps · s) (scriptMessage_append a b)).trans (runSteps_append hrun hrest),
    by simp [hlen], ?_⟩
  rw [outputOf_append (by simp), outputOf_shownOf, streamOf_append, ← take_mapIdx, List.mapIdx_append]
  simp only [Nat.zero_add]
  obtain rfl | hle := hdone
  · simp [outputOf, streamOf]
  · rw [List.take_append_of_le_length (by simpa using hle), List.take_append_of_le_length (by simpa using hle)]

/-- Settles O52: both messages meet the same keystream; and the writes that follow are run after the values of those
before them are read. -/
theorem outputDependsOnThePrefixOnly : Obligations.OutputDependsOnThePrefixOnly := by
  refine ⟨fun m ws1 ws2 s1 s2 hr1 hr2 hs1 hs2 hS hstream hn1 hn2 => ?_, fun ws more s hr _ => ?_⟩
  · obtain ⟨run1, hrun1, hlen1, hout1⟩ := runSteps_scriptMessage_take hr1 hs1 m ws1 hn1
    obtain ⟨run2, hrun2, hlen2, hout2⟩ := runSteps_scriptMessage_take hr2 hs2 m ws2 hn2
    have hkey (i : Nat) : streamByte s1.S i = streamByte s2.S i := by
      rw [← streamByte_set_counter s1.S 0, hS, streamByte_set_counter]
    exact ⟨run1, run2, hrun1, hrun2, hlen1, hlen2, by simp only [hout1, hout2, hstream, hkey]⟩
  · obtain ⟨run, hrun, hlen, hfinal⟩ := runSteps_scriptMessage_completes ws hr
    obtain ⟨rest, hrest, -, -⟩ := runSteps_dataWrites_complete more hfinal
    refine ⟨run, _, hrun, (congrArg (runSteps · s) (scriptMessage_append ws more)).trans (runSteps_append hrun hrest),
      hlen, ?_⟩
    rw [← hlen]
    exact List.take_left

end Sys2Proof.Proofs
